-- ==== Sys2Proof/Word.lean ====
section
/-! DEFINITION. The word types of the FZ3216 and the index types of its tables (spec/00_scope.md). -/

namespace Sys2Proof

/-- One byte of the serial line (R174). -/
abbrev Byte := BitVec 8

/-- A 32-bit word: a buffer word, a port word, a fill word, a digest. -/
abbrev Word := BitVec 32

/-- A buffer word address, 0–65535 (CONVENTIONS, "Words and addresses"). -/
abbrev Addr := BitVec 16

/-- The sequence number of a report, 0–65535, wrapping (R158). -/
abbrev Seq := BitVec 16

/-- The 16-bit frame check value (R177). -/
abbrev Crc := BitVec 16

/-- A slot number, 0–15 (R22). -/
abbrev SlotIx := Fin 16

/-- A leg entry number, 0–511 (R1). -/
abbrev LegIx := Fin 512

/-- A stream port number, 0–7 (R121). -/
abbrev PortIx := Fin 8

/-- A trigger entry number, 0–31 (R106). -/
abbrev TrigIx := Fin 32

/-- A fence entry number, 0–7 (R148). -/
abbrev FenceIx := Fin 8

/-- A priority level, 0–7, 7 highest (R23, R72). -/
abbrev Level := Fin 8

end Sys2Proof
end

