-- ==== Sys2Proof/Syntax.lean ====
section
/-! DEFINITION. The commands of the part: one constructor for each row of spec/opcode_table.json, in the table's order.

A row is a step of the part: an event from outside (a byte, a strap, a word at a port), the request engine taking
one kind of request out of the inbox and executing it, or the part's own next move (an element, a transmission, a
trigger event). The operands of a REQUEST travel in its frame, byte by byte through the receiver into the inbox
(R176, R183), and the engine reads them there (R186): a request row therefore has no operand of its own here. Where
the spec says that two things may come at nearly the same moment and gives each order its outcome without a row of
its own, the order is an operand (`AskOrder`, `ElementOrder`, `Upset`). -/

namespace Sys2Proof

/-- How a host block's request to the buffer arbiter falls beside the request of the element in flight, where that
element has not been granted by an earlier step (R146, R155). -/
inductive AskOrder where
  /-- the element asked first, so it holds the grant when the block asks -/
  | elementFirst
  /-- the block asked first, so it is granted and the element waits -/
  | blockFirst
  /-- both reach the arbiter at nearly the same moment with GRANT NONE: LAST-GRANT decides -/
  | together
  deriving DecidableEq, Repr

/-- Where an element's grant and the release at its end fall beside the other steps.

`cancelAt` and `selectAt` say when a waiting cancel of the slot acts and when the arbiter selects, at a release, among the slot events and
their actions that the trigger table still takes (R45, R84, R94, R110, R112): 0 is the element's own step, and n is the n-th point
from there, a point standing before each entry that the trigger table meets in taking an event and one after the last entry.

`setsAfterGrant` is the number of the FENCE-SETs taken while the element was in flight that came after its grant (R53, R150). -/
structure ElementOrder where
  cancelAt : Nat
  selectAt : Nat
  setsAfterGrant : Nat
  deriving DecidableEq, Repr

/-- An upset: the buffer word it reaches (R142) and, where it comes during start-up, how many words start-up has written by then; at any
other time that number says nothing (R144). -/
structure Upset where
  addr : Addr
  written : Nat
  deriving DecidableEq, Repr

/-- The commands, one for each row of spec/opcode_table.json. -/
inductive Instr where
  /-- POWER_RESET (R195): RESET is driven low. -/
  | powerReset
  /-- RESET_RELEASE (R195): RESET is released; the operand is RATE1:RATE0 as the strap pins stand (R174). -/
  | resetRelease (straps : BitVec 2)
  /-- START_UP_END (R195): start-up ends. -/
  | startUpEnd
  /-- FRAME_RECEIVED (R177): the second CRC byte of a frame is received. -/
  | frameReceived (b : Byte)
  /-- LENGTH_ERROR (R176): a LEN byte outside 2–250 is received. -/
  | lengthError (b : Byte)
  /-- GAP_TIMEOUT (R178): the gap timer expires inside a frame. -/
  | gapTimeout
  /-- BREAK (R179): RXD has been low for 20 bit times. -/
  | lineBreak
  /-- HELLO (R191). -/
  | hello
  /-- LINK_STATUS (R192). -/
  | linkStatus
  /-- ENGINE_RESET (R193). -/
  | engineReset
  /-- BUF_WRITE (R153); the operand orders its ask against the element in flight. -/
  | bufWrite (order : AskOrder)
  /-- BUF_READ (R154); the operand orders its ask against the element in flight. -/
  | bufRead (order : AskOrder)
  /-- HOST_BLOCK_GRANT (R146): the granted host block runs whole. -/
  | hostBlockGrant
  /-- FENCE_SET (R150). -/
  | fenceSet
  /-- FENCE_READ (R152). -/
  | fenceRead
  /-- LEG_LOAD (R14). -/
  | legLoad
  /-- LEG_READ (R17). -/
  | legRead
  /-- LEG_LINK (R18). -/
  | legLink
  /-- SLOT_SETUP (R24). -/
  | slotSetup
  /-- SLOT_ARM (R32). -/
  | slotArm
  /-- SLOT_START (R34). -/
  | slotStart
  /-- SLOT_HOLD (R40). -/
  | slotHold
  /-- SLOT_RESUME (R43, R99). -/
  | slotResume
  /-- SLOT_CANCEL (R44). -/
  | slotCancel
  /-- SLOT_QUERY (R47). -/
  | slotQuery
  /-- TRIG_SET (R107). -/
  | trigSet
  /-- TRIG_READ (R108). -/
  | trigRead
  /-- PORT_SETUP (R125). -/
  | portSetup
  /-- PORT_QUERY (R137). -/
  | portQuery
  /-- REPORT_ACK (R165). -/
  | reportAck
  /-- REPORT_REPLAY (R168). -/
  | reportReplay
  /-- REPORT_GATE (R169). -/
  | reportGate
  /-- TRANSMIT_REPLY (R189): the free transmitter takes the oldest queued reply. -/
  | transmitReply
  /-- TRANSMIT_REPORT (R163): the free transmitter takes the offered report. -/
  | transmitReport
  /-- ELEMENT (R52): the element in flight runs and completes. The operand places its grant among the FENCE-SETs taken meanwhile and,
  where its end releases the mover, the release; one that is still outstanding at the next ELEMENT is made there. -/
  | element (order : ElementOrder)
  /-- PACE_EXPIRY (R39): the pace timer of a slot expires. -/
  | paceExpiry (slot : SlotIx)
  /-- WORD_ARRIVAL (R127): a complete word arrives at an inbound port. -/
  | wordArrival (port : PortIx) (word : Word)
  /-- WORD_TAKE (R129): a frame begins at an outbound port. -/
  | wordTake (port : PortIx)
  /-- UPSET (R142): an upset reaches a buffer word. -/
  | upset (upset : Upset)
  /-- TRIGGER_EVENT (R111): the trigger table takes the oldest slot event. -/
  | triggerEvent
  /-- BYTE_DELIVERED (R176): the receiver delivers one received byte. -/
  | byteDelivered (b : Byte)
  /-- FRAME_SENT (R189): the last stop bit of the frame being sent goes out. -/
  | frameSent
  /-- LINE_HIGH_AFTER_BREAK (R179): RXD has been high for one bit time after a break. -/
  | lineHighAfterBreak
  deriving DecidableEq, Repr

end Sys2Proof
end

