-- ==== Sys2Proof/Decode.lean ====
section
/-! DEFINITION. What the host's table lookup reads. No row of spec/opcode_table.json gives bits (every "fields" is empty
and none has a "fixed"): the commands are steps of the part, not words, so no word spells one. The bytes of the
frames, which the spec does give (R196–R201), are decoded in Sys2Proof/Machine/Operands.lean. -/

namespace Sys2Proof

/-- The command a word spells by the table's bits: the table gives no row any bits, so none. -/
def decodeTableWord (_nbits _w : Nat) : Option Instr := none

end Sys2Proof
end

