-- ==== Sys2Proof/Config.lean ====
section
/-! DEFINITION. The fixed quantities of the part (spec/00_scope.md, DEVICE SUMMARY, and the rules named at each). The spec
leaves no result of a command undefined, so this file holds no free value: what it leaves open is the ORDER in which
two things that come at nearly the same moment are taken, and that order is an operand of the command concerned
(Sys2Proof/Syntax.lean) or the order of the commands in the queue. -/

namespace Sys2Proof.Config

/-- The inbox holds at most 8 requests (R183). -/
def inboxCap : Nat := 8

/-- The reply queue holds up to 12 reply frames (R188). -/
def replyCap : Nat := 12

/-- The reply cache holds up to 16 entries (R184). -/
def cacheCap : Nat := 16

/-- The report queue holds at most 32 reports (R157). -/
def reportCap : Nat := 32

/-- A port FIFO holds up to 32 words (R123). -/
def fifoCap : Nat := 32

/-- The buffer memory holds 65,536 words (R141). -/
def bufWords : Nat := 65536

/-- The suspension stack holds at most 3 slots (R77). -/
def stackCap : Nat := 3

/-- A slot holds at most 15 credits (R33). -/
def creditCap : Nat := 15

/-- A host block carries at most 60 words (R153, R154). -/
def blockCap : Nat := 60

/-- Where every 16-bit counter of the part stays once it is there (R127, R129, R160, R192). -/
def counterTop : Nat := 65535

/-- The gap timer's 2 ms, in microseconds (R178). -/
def gapMicros : Nat := 2000

/-- The digest accumulator at leg entry, and the value the final digest is formed with (R62, R70). -/
def digestInit : Word := 0xFFFFFFFF

/-- The digest's generator polynomial in its reflected form (R70). -/
def digestPoly : Word := 0xEDB88320

/-- The frame check register's start value (R177). -/
def crcInit : Crc := 0xFFFF

/-- The frame check's polynomial (R177). -/
def crcPoly : Crc := 0x1021

/-- The SYNC byte of a frame (R176, R197). -/
def sync : Byte := 0xA5

/-- The smallest LEN of a frame (R176). -/
def lenMin : Nat := 2

/-- The largest LEN of a frame (R176). -/
def lenMax : Nat := 250

end Sys2Proof.Config
end

