-- ==== Sys2Proof/Machine/State.lean ====
section
/-! DEFINITION. The state of the FZ3216 as plain data: the nine blocks of spec/00_scope.md (FUNCTIONAL BLOCKS), the phase
of a power reset, and the queue of the commands that wait. Types only, and the state after reset: every operation is in
Sys2Proof/Machine/Ops.lean and the files it imports.

Where the spec makes one piece of state a function of others it is stored once and computed: the ready set is the
slots in READY (R72, R73); STATE, CURRENT-LEG, the pace timer and the fault record of a slot are one `Standing` (R27, R39,
R90), so that a slot has a current leg, a running timer or a fault record exactly in the states the spec gives them; a port's
OCCUPANCY and COMMITTED are lengths (R124); ATTN is "the queue is not empty" (R170); STATUS of a leg entry is whether it
has a record (R1); RESUME-POINT follows from CODE (R89). -/

namespace Sys2Proof.Machine

/-! ## Why a step stops -/

/-- The stops of a step. Each is a state that the spec's own laws rule out, so no run from reset reaches one: the machine
stops there rather than go on with a value the spec does not give (safe). -/
inductive Fault where
  /-- The slot named stands in a leg entry that holds no record; R12 says a pinned leg is LOADED. Raised by ELEMENT and by
  SLOT_RESUME at RESUME-POINT LEG-END. Safe. -/
  | freeLeg (leg : LegIx)
  /-- The mover serves a slot that is not ACTIVE; R48 says the mover is busy while a slot is ACTIVE and serves it. Raised by
  ELEMENT. Safe. -/
  | moverSlot (slot : SlotIx)
  /-- A PORT read finds no word; R54 says it always finds one. Raised by ELEMENT. Safe. -/
  | noPortWord (port : PortIx)
  /-- A PORT write finds no free place; R55 says it always finds one. Raised by ELEMENT. Safe. -/
  | noPortPlace (port : PortIx)
  deriving DecidableEq, Repr

/-- The refusals of a step. -/
inductive Refusal where
  /-- A command of the table whose meaning this model does not give. Raised by `exec`'s refused arms alone, of which there
  is none. Safe. -/
  | notModelled (mnemonic : String)
  deriving DecidableEq, Repr

/-! ## Codes (R190, R197–R201) -/

/-- The statuses of a reply (R190). -/
inductive Status where
  | ok | full | tagBusy | kind | length | field | range | state | inUse | fence | parity | mode | seq | leg
  deriving DecidableEq, Repr

/-- The 24 request kinds (R197). -/
inductive ReqKind where
  | hello | linkStatus | engineReset
  | bufWrite | bufRead | fenceSet | fenceRead
  | legLoad | legRead | legLink
  | slotSetup | slotArm | slotStart | slotHold | slotResume | slotCancel | slotQuery
  | trigSet | trigRead
  | portSetup | portQuery
  | reportAck | reportReplay | reportGate
  deriving DecidableEq, Repr

/-- The slot events (R106, R109). -/
inductive EventKind where
  | burstEnd | mark | legEnd | chainEnd | fault
  deriving DecidableEq, Repr

/-- The trigger actions (R106). -/
inductive Action where
  | start | arm | hold
  deriving DecidableEq, Repr

/-- Why a trigger action is dropped (R116). -/
inductive DropReason where
  | credits | mode | state | leg | inUse
  deriving DecidableEq, Repr

/-- The cause of a RESET-DONE report (R158). -/
inductive ResetCause where
  | power | request
  deriving DecidableEq, Repr

/-- The alarm of a PORT-ALARM report (R136). -/
inductive Alarm where
  | overrun | underrun
  deriving DecidableEq, Repr

/-- A port's DIRECTION (R123). -/
inductive Direction where
  | inward | outward
  deriving DecidableEq, Repr

/-- MOVER-ACCESS of a fence entry (R148). -/
inductive MoverAccess where
  | none | read | readWrite
  deriving DecidableEq, Repr

/-- HOST-ACCESS of a fence entry (R148). -/
inductive HostAccess where
  | readWrite | read
  deriving DecidableEq, Repr

/-! ## Leg store (LST) -/

/-- The address fields of a BUFFER endpoint (R3): ADDR, STEP (signed), RING, SKIP (signed). -/
structure Path where
  addr : Addr
  step : BitVec 8
  ring : Fin 17
  skip : BitVec 16
  deriving DecidableEq, Repr

/-- A source endpoint with the fields that belong to its kind (R4). -/
inductive Source where
  | buffer (path : Path)
  | port (port : PortIx)
  | const (value : Word)
  deriving DecidableEq, Repr

/-- A destination endpoint with the fields that belong to its kind (R5). -/
inductive Dest where
  | buffer (path : Path)
  | port (port : PortIx)
  deriving DecidableEq, Repr

/-- A leg record (R3). `next` absent is NONE. -/
structure LegRecord where
  src : Source
  dst : Dest
  burst : Nat
  count : Nat
  mark : Nat
  next : Option LegIx
  endReport : Bool
  endHold : Bool
  digest : Bool
  expect : Option Word
  deriving DecidableEq, Repr

/-- A leg entry (R1): LOADED exactly when it has a record, and its pin count. -/
structure LegEntry where
  record : Option LegRecord
  pins : Nat
  deriving DecidableEq, Repr

/-! ## Slot table (SLT) -/

/-- The setup fields of a slot (R23). `port` and `firstLeg` absent are NONE. -/
structure Setup where
  priority : Level
  yields : Bool
  preempt : Bool
  port : Option PortIx
  runLeg : Bool
  pace : Nat
  firstLeg : Option LegIx
  deriving DecidableEq, Repr

/-- The fault codes with the optional fields each carries (R89). -/
inductive FaultCause where
  | fenceRead (address : Addr)
  | fenceWrite (address : Addr)
  | parity (address : Addr)
  | digest (expected actual : Word)
  | leg
  deriving DecidableEq, Repr

/-- A fault record (R90). RESUME-POINT follows from the cause. -/
structure FaultRecord where
  cause : FaultCause
  leg : LegIx
  remaining : Nat
  element : Nat
  deriving DecidableEq, Repr

/-- The seven states that hold a leg, with what exists only there: the pace timer's time left in PACED (R39), the fault
record in FAULTED (R90). -/
inductive LegState where
  | armed | ready | active | suspended
  | paced (left : Nat)
  | held
  | faulted (record : FaultRecord)
  deriving DecidableEq, Repr

/-- Where a slot stands: its STATE together with its CURRENT-LEG, which is present exactly in the seven states that hold
a leg (R27). -/
inductive Standing where
  | idle
  | done
  | inLeg (leg : LegIx) (st : LegState)
  deriving DecidableEq, Repr

/-- A slot record (R22): the setup, STATE, CURRENT-LEG, pace timer and FAULT record (`standing`), the context (R26), CREDITS
(R33) and HOLD-REQUESTED (R41). -/
structure Slot where
  setup : Setup
  standing : Standing
  src : Addr
  dst : Addr
  remaining : Nat
  element : Nat
  digest : Word
  legRun : Bool
  credits : Nat
  holdRequested : Bool
  deriving DecidableEq, Repr

/-! ## Arbiter and mover (ARB, MOV) -/

/-- The snapshot of a burst (R49). -/
structure Snapshot where
  src : Addr
  dst : Addr
  digest : Word
  creditUsed : Bool
  runSet : Bool
  deriving DecidableEq, Repr

/-- An entry of the suspension stack: the slot and its burst's snapshot (R72). -/
structure Suspended where
  slot : SlotIx
  snapshot : Snapshot
  deriving DecidableEq, Repr

/-- The mover and the mover grant (R48, R72). -/
inductive Mover where
  /-- no slot holds the mover -/
  | idle
  /-- the slot that is ACTIVE, with the snapshot of its burst; its element in flight is the one its ELEMENT names -/
  | busy (slot : SlotIx) (snapshot : Snapshot)
  /-- a burst has ended and the arbiter has not yet selected for the release (R81, R84, R94, R110): the number of points of the trigger
  table's taking of events until a waiting cancel of the slot acts (R45), and until the selection; an ELEMENT that comes first makes both -/
  | releasing (cancelIn selectIn : Nat)
  deriving DecidableEq, Repr

/-- The arbiter (R72): the round-robin pointers, the suspension stack with its TOP FIRST, and the mover. -/
structure Arbiter where
  pointers : Vector SlotIx 8
  stack : List Suspended
  mover : Mover
  deriving DecidableEq, Repr

/-! ## Buffer memory (BUF) -/

/-- A buffer word (R141, R142): its VALUE, or DAMAGED, when its VALUE is lost. -/
inductive BufWord where
  | good (value : Word)
  | damaged
  deriving DecidableEq, Repr

/-- A fence entry (R148). -/
structure Fence where
  enabled : Bool
  base : Addr
  size : Nat
  mover : MoverAccess
  host : HostAccess
  deriving DecidableEq, Repr

/-- The two requesters of the buffer arbiter (R145). -/
inductive Requester where
  | mover | link
  deriving DecidableEq, Repr

/-- The buffer arbiter (R145): GRANT, WAITING and LAST-GRANT, and what the fence checks of the element in flight need (R53). `fencesAtGrant`
is the table as it stood at the grant, where a step before the element's own has fixed it. Where none has, `fencesReplaced` holds the
tables that FENCE-SETs have replaced while the element was in flight, the newest first: it may have been granted under any of them
(R150, notes/assumptions/5.md). -/
structure BufArbiter where
  grant : Option Requester
  waiting : Option Requester
  last : Requester
  fencesAtGrant : Option (Vector Fence 8)
  fencesReplaced : List (Vector Fence 8)
  deriving DecidableEq, Repr

/-! ## Stream ports (STP) -/

/-- A stream port (R123). `tentative` counts the oldest words of an inbound FIFO read but not committed, `staged` the newest
words of an outbound FIFO written but not committed (R124). `driven` is the word SDn carries in the frame under way, absent
while the port drives no frame (R121, R129). -/
structure Port where
  direction : Direction
  threshold : Nat
  enable : Bool
  fifo : List Word
  tentative : Nat
  staged : Nat
  overrun : Bool
  underrun : Bool
  overrunCount : Nat
  underrunCount : Nat
  driven : Option Word
  deriving DecidableEq, Repr

/-! ## Trigger table (TRG) -/

/-- A trigger entry (R106). -/
structure Trigger where
  enabled : Bool
  oneShot : Bool
  event : EventKind
  source : SlotIx
  target : SlotIx
  action : Action
  deriving DecidableEq, Repr

/-- A slot event that has reached the trigger table (R109). -/
structure SlotEvent where
  kind : EventKind
  slot : SlotIx
  deriving DecidableEq, Repr

/-! ## Report queue (RPQ) -/

/-- The kinds of report with their fields (R158). -/
inductive ReportBody where
  | resetDone (cause : ResetCause)
  | legEnd (slot : SlotIx) (leg : LegIx) (bursts : Nat) (digest : Option Word)
  | chainEnd (slot : SlotIx) (leg : LegIx) (credits : Nat)
  | mark (slot : SlotIx) (leg : LegIx) (remaining : Nat)
  | held (slot : SlotIx) (leg : LegIx) (remaining : Nat)
  | cancelled (slot : SlotIx) (leg : Option LegIx) (remaining element : Nat)
  | fault (slot : SlotIx) (record : FaultRecord)
  | portAlarm (port : PortIx) (alarm : Alarm)
  | triggerDrop (entry : TrigIx) (target : SlotIx) (reason : DropReason)
  | loss (count : Nat)
  deriving DecidableEq, Repr

/-- A report record (R158). -/
structure Report where
  seq : Seq
  body : ReportBody
  sent : Bool
  deriving DecidableEq, Repr

/-- The report queue (R157). The send position is the number of reports before it. -/
structure ReportQueue where
  queue : List Report
  nextSeq : Seq
  sendPos : Nat
  gateOpen : Bool
  lost : Nat
  deriving DecidableEq, Repr

/-! ## Host link (LNK) -/

/-- A frame before its SYNC, LEN and CRC are put round it (R197). -/
structure Frame where
  kind : Byte
  tag : Byte
  body : List Byte
  deriving DecidableEq, Repr

/-- A request in the inbox (R183). -/
structure Request where
  kind : ReqKind
  tag : Byte
  body : List Byte
  crc : Crc
  deriving DecidableEq, Repr

/-- What an executing request waits for between two steps (R185). -/
inductive Wait where
  /-- SLOT-CANCEL of the ACTIVE slot: the element in flight (R45) -/
  | cancel (slot : SlotIx)
  /-- ENGINE-RESET with a slot ACTIVE: the element in flight (R193) -/
  | engineReset
  /-- BUF-WRITE or BUF-READ: the host block under its buffer grant (R153, R154) -/
  | hostBlock
  deriving DecidableEq, Repr

/-- The executing request between two steps (R185): the request, what it waits for, and how many reports stood in the queue
when it was taken, so that a report appended since is held back (R189). It holds the one reserved reply place. -/
structure Executing where
  request : Request
  waits : Wait
  reportsAtTake : Nat
  deriving DecidableEq, Repr

/-- An entry of the reply cache (R184). -/
structure CacheEntry where
  tag : Byte
  crc : Crc
  reply : Frame
  deriving DecidableEq, Repr

/-- The receiver (R176): LEN, the bytes kept since, oldest first, and the low byte of the received CRC once it is there. -/
inductive Receiver where
  | hunt
  | length
  | body (len : Byte) (kept : List Byte)
  | check (len : Byte) (kept : List Byte) (low : Option Byte)
  deriving DecidableEq, Repr

/-- The transmitter (R189): free, or sending the bytes of one frame. -/
inductive Transmitter where
  | free
  | sending (line : List Byte)
  deriving DecidableEq, Repr

/-- The eight link counters (R192). -/
structure Counters where
  crcErrors : Nat
  lengthErrors : Nat
  gapTimeouts : Nat
  breaks : Nat
  fullRejects : Nat
  duplicates : Nat
  replays : Nat
  replyDrops : Nat
  deriving DecidableEq, Repr

/-- The host link (R195's table, R174): the receiver, its gap timer (the microseconds left while it runs, R178) and whether it
waits for the line to be high after a break (R179); the inbox; the executing request; the reply queue, oldest first; the
reply cache, oldest first; the transmitter; the counters; the rate code. -/
structure Link where
  receiver : Receiver
  gapLeft : Option Nat
  breakHeld : Bool
  inbox : List Request
  executing : Option Executing
  replies : List Frame
  cache : List CacheEntry
  transmitter : Transmitter
  counters : Counters
  rate : BitVec 2
  deriving DecidableEq, Repr

/-! ## The whole part -/

/-- Where the part stands in a power reset (R195): RESET low, start-up after its release, or running. -/
inductive Phase where
  | resetLow
  /-- start-up, which writes zero to the buffer words from 0 upward: those below `written` have been written (R144) -/
  | startUp (written : Nat)
  | running
  deriving DecidableEq, Repr

/-- The state of the part. `mem` lists the buffer words that do not read as a good zero, by rising address; `events` are the
slot events the trigger table has not taken, oldest first; `pending` are the commands that wait, first in first out. -/
structure State where
  phase : Phase
  link : Link
  legs : Vector LegEntry 512
  slots : Vector Slot 16
  arb : Arbiter
  mem : List (Nat × BufWord)
  bufArb : BufArbiter
  fences : Vector Fence 8
  ports : Vector Port 8
  triggers : Vector Trigger 32
  events : List SlotEvent
  reports : ReportQueue
  pending : List Instr
  deriving DecidableEq, Repr

/-! ## The state after reset -/

/-- A leg entry at power reset (R2). -/
def LegEntry.initial : LegEntry := { record := none, pins := 0 }

/-- The setup of a slot after either reset (R23). -/
def Setup.initial : Setup :=
  { priority := 0, yields := true, preempt := false, port := none, runLeg := false, pace := 0, firstLeg := none }

/-- A slot after either reset (R28). -/
def Slot.initial : Slot :=
  { setup := Setup.initial, standing := .idle, src := 0, dst := 0, remaining := 0, element := 0, digest := 0,
    legRun := false, credits := 0, holdRequested := false }

/-- The arbiter after either reset (R72). -/
def Arbiter.initial : Arbiter :=
  { pointers := Vector.replicate 8 15, stack := [], mover := .idle }

/-- The buffer arbiter after either reset (R145). -/
def BufArbiter.initial : BufArbiter :=
  { grant := none, waiting := none, last := .link, fencesAtGrant := none, fencesReplaced := [] }

/-- A fence entry at power reset (R148). -/
def Fence.initial : Fence :=
  { enabled := false, base := 0, size := 65536, mover := .readWrite, host := .readWrite }

/-- A port at power reset (R123). -/
def Port.initial : Port :=
  { direction := .inward, threshold := 1, enable := false, fifo := [], tentative := 0, staged := 0, overrun := false,
    underrun := false, overrunCount := 0, underrunCount := 0, driven := none }

/-- A trigger entry at power reset (R106). -/
def Trigger.initial : Trigger :=
  { enabled := false, oneShot := false, event := .burstEnd, source := 0, target := 0, action := .start }

/-- The report queue while RESET is low (R157). -/
def ReportQueue.initial : ReportQueue :=
  { queue := [], nextSeq := 0, sendPos := 0, gateOpen := true, lost := 0 }

/-- The link counters at power reset (R192). -/
def Counters.initial : Counters :=
  { crcErrors := 0, lengthErrors := 0, gapTimeouts := 0, breaks := 0, fullRejects := 0, duplicates := 0, replays := 0,
    replyDrops := 0 }

/-- The host link while RESET is low (R195). The rate code is sampled only when RESET is released (R174): 0 until then is a
DESIGN CHOICE (notes/assumptions/1.md; unsafe). -/
def Link.initial : Link :=
  { receiver := .hunt, gapLeft := none, breakHeld := false, inbox := [], executing := none, replies := [], cache := [],
    transmitter := .free, counters := Counters.initial, rate := 0 }

/-- The part while RESET is low (R195): every block at its power-reset values. The buffer's contents are not kept then
(R144); nothing listed is a DESIGN CHOICE (notes/assumptions/2.md; unsafe). A run goes on with RESET_RELEASE and START_UP_END
(notes/assumptions/3.md). -/
def State.reset : State :=
  { phase := .resetLow
    link := Link.initial
    legs := Vector.replicate 512 LegEntry.initial
    slots := Vector.replicate 16 Slot.initial
    arb := Arbiter.initial
    mem := []
    bufArb := BufArbiter.initial
    fences := Vector.replicate 8 Fence.initial
    ports := Vector.replicate 8 Port.initial
    triggers := Vector.replicate 32 Trigger.initial
    events := []
    reports := ReportQueue.initial
    pending := [] }

end Sys2Proof.Machine
end

