-- ==== Sys2Proof/Machine/Flags.lean ====
section
/-! DEFINITION. The checks and levels the spec computes: the frame check (R177), the digest (R70), the counters' top (R192),
a port's request condition (R131), eligibility (R35, R36), ATTN (R170), and the codes' sets. -/

namespace Sys2Proof.Machine

/-- A counter that rises by 1 and stays at 65535 once there (R127, R129, R160, R192). -/
def bump (n : Nat) : Nat := if n < Config.counterTop then n + 1 else n

/-! ## The frame check (R177) -/

/-- One shift of the frame check register. -/
def crcShift (r : Crc) : Crc := if r.msb then (r <<< 1) ^^^ Config.crcPoly else r <<< 1

/-- One byte into the frame check register. -/
def crcByte (r : Crc) (b : Byte) : Crc := Nat.repeat crcShift 8 (r ^^^ (b.zeroExtend 16 <<< 8))

/-- The frame check over a run of bytes, in the order received (R177). -/
def frameCrc (bs : List Byte) : Crc := bs.foldl crcByte Config.crcInit

/-! ## The digest (R70) -/

/-- One shift of the digest accumulator. -/
def digestShift (a : Word) : Word := if a.getLsbD 0 then (a >>> 1) ^^^ Config.digestPoly else a >>> 1

/-- One byte into the digest accumulator. -/
def digestByte (a : Word) (b : Byte) : Word := Nat.repeat digestShift 8 (a ^^^ b.zeroExtend 32)

/-- One word into the digest accumulator: its four bytes, least significant first (R70). -/
def digestWord (a w : Word) : Word :=
  [w.extractLsb' 0 8, w.extractLsb' 8 8, w.extractLsb' 16 8, w.extractLsb' 24 8].foldl digestByte a

/-- The final digest formed from the accumulator (R62). -/
def finalDigest (a : Word) : Word := a ^^^ Config.digestInit

/-! ## Ports (R124, R131) -/

/-- OCCUPANCY: the words of an inbound FIFO; 0 at an outbound port (R124). -/
def Port.occupancy (p : Port) : Nat :=
  match p.direction with
  | .inward => p.fifo.length
  | .outward => 0

/-- COMMITTED: the words of an outbound FIFO that the peripheral may take; 0 at an inbound port (R124). -/
def Port.committed (p : Port) : Nat :=
  match p.direction with
  | .inward => 0
  | .outward => p.fifo.length - p.staged

/-- The free places of an outbound FIFO: 32 less committed and staged words (R36). -/
def Port.freePlaces (p : Port) : Nat := Config.fifoCap - p.committed - p.staged

/-- The request condition of a port, a level (R131). -/
def Port.condition (p : Port) : Bool :=
  p.enable &&
    match p.direction with
    | .inward => decide (p.threshold ≤ p.occupancy)
    | .outward => decide (p.threshold ≤ p.freePlaces)

/-! ## Slots -/

/-- The slot is outside IDLE (R25). -/
def Slot.outsideIdle (x : Slot) : Bool := decide (x.standing ≠ .idle)

/-- The slot is bound to port p: its PORT is p and it is outside IDLE (R25). -/
def Slot.boundTo (x : Slot) (p : PortIx) : Bool := x.outsideIdle && decide (x.setup.port = some p)

/-- The slot is bound to some port (R25, R34). -/
def Slot.isBound (x : Slot) : Bool := x.outsideIdle && x.setup.port.isSome

/-- The slot is ARMED (R27). -/
def Slot.isArmed (x : Slot) : Bool :=
  match x.standing with
  | .inLeg _ .armed => true
  | _ => false

/-- The slot is READY, that is, a member of the ready set (R72). -/
def Slot.isReady (x : Slot) : Bool :=
  match x.standing with
  | .inLeg _ .ready => true
  | _ => false

/-- The slot is ACTIVE (R27). -/
def Slot.isActive (x : Slot) : Bool :=
  match x.standing with
  | .inLeg _ .active => true
  | _ => false

/-- The slot is SUSPENDED (R27). -/
def Slot.isSuspended (x : Slot) : Bool :=
  match x.standing with
  | .inLeg _ .suspended => true
  | _ => false

/-- CURRENT-LEG, present in the seven states that hold a leg (R27). -/
def Slot.currentLeg (x : Slot) : Option LegIx :=
  match x.standing with
  | .inLeg l _ => some l
  | _ => none

/-- The fault record, present exactly in FAULTED (R90). -/
def Slot.faultRecord (x : Slot) : Option FaultRecord :=
  match x.standing with
  | .inLeg _ (.faulted f) => some f
  | _ => none

/-- The pace timer's time left, while it runs (R39). -/
def Slot.timer (x : Slot) : Option Nat :=
  match x.standing with
  | .inLeg _ (.paced n) => some n
  | _ => none

/-- The slot is in a state that lets a bound slot keep PORT-SETUP out: ARMED, READY, ACTIVE, SUSPENDED, PACED or HELD
(R125). -/
def Slot.keepsPort (x : Slot) : Bool :=
  match x.standing with
  | .inLeg _ (.faulted _) => false
  | .inLeg _ _ => true
  | _ => false

/-- The grounds of eligibility of an ARMED slot: its credits or its running leg (R35), or its port's request condition (R36). -/
def Slot.grounds (x : Slot) (ports : Vector Port 8) : Bool :=
  match x.setup.port with
  | none => decide (0 < x.credits) || x.legRun
  | some p => (ports.get p).condition

/-- An ARMED slot that is eligible (R37). -/
def Slot.eligible (x : Slot) (ports : Vector Port 8) : Bool := x.isArmed && x.grounds ports

/-- The slot is IDLE or DONE, the states in which it may be set up or armed (R24, R32). -/
def Slot.atRest (x : Slot) : Bool :=
  match x.standing with
  | .idle | .done => true
  | .inLeg _ _ => false

/-! ## Faults (R89) -/

/-- RESUME-POINT of a fault code: BURST for the three element codes, LEG-END for DIGEST and LEG (R89, R90). -/
inductive ResumePoint where
  | burst | legEnd
  deriving DecidableEq, Repr

/-- The resume point a fault's code fixes (R89). -/
def FaultCause.resumePoint : FaultCause → ResumePoint
  | .fenceRead _ | .fenceWrite _ | .parity _ => .burst
  | .digest _ _ | .leg => .legEnd

/-! ## Legs -/

/-- The leg has a BUFFER endpoint, so its elements need a buffer grant (R52). -/
def LegRecord.usesBuffer (l : LegRecord) : Bool :=
  match l.src, l.dst with
  | .buffer _, _ => true
  | _, .buffer _ => true
  | _, _ => false

/-- The port of a PORT source (R4). -/
def LegRecord.srcPort (l : LegRecord) : Option PortIx :=
  match l.src with
  | .port p => some p
  | _ => none

/-- The port of a PORT destination (R5). -/
def LegRecord.dstPort (l : LegRecord) : Option PortIx :=
  match l.dst with
  | .port p => some p
  | _ => none

/-- SRC-ADDR of a record: 0 where it does not belong to the kind (R4). -/
def LegRecord.srcAddr (l : LegRecord) : Addr :=
  match l.src with
  | .buffer p => p.addr
  | _ => 0

/-- DST-ADDR of a record: 0 where it does not belong to the kind (R5). -/
def LegRecord.dstAddr (l : LegRecord) : Addr :=
  match l.dst with
  | .buffer p => p.addr
  | _ => 0

/-! ## Fences (R149) -/

/-- A fence entry governs a word it covers, while ENABLED (R148). -/
def Fence.covers (f : Fence) (a : Addr) : Bool :=
  f.enabled && decide (f.base.toNat ≤ a.toNat) && decide (a.toNat < f.base.toNat + f.size)

/-- The governing entry of a word: the lowest-numbered enabled entry that covers it; none when the word is open (R149). -/
def governing (fs : Vector Fence 8) (a : Addr) : Option Fence := fs.toList.find? (·.covers a)

/-- The mover may read the word (R149). -/
def moverMayRead (fs : Vector Fence 8) (a : Addr) : Bool :=
  match governing fs a with
  | none => true
  | some f => decide (f.mover ≠ .none)

/-- The mover may write the word (R149). -/
def moverMayWrite (fs : Vector Fence 8) (a : Addr) : Bool :=
  match governing fs a with
  | none => true
  | some f => decide (f.mover = .readWrite)

/-- The host may write the word (R149). -/
def hostMayWrite (fs : Vector Fence 8) (a : Addr) : Bool :=
  match governing fs a with
  | none => true
  | some f => decide (f.host = .readWrite)

/-- The host may read the word: both HOST-ACCESS values permit it (R149). -/
def hostMayRead (fs : Vector Fence 8) (a : Addr) : Bool :=
  match governing fs a with
  | none => true
  | some f => match f.host with
    | .readWrite | .read => true

/-! ## ATTN (R170) -/

/-- ATTN is asserted while the report queue holds one or more reports (R170). -/
def ReportQueue.attn (q : ReportQueue) : Bool := !q.queue.isEmpty

end Sys2Proof.Machine
end

