-- ==== Sys2Proof/Machine/Operands.lean ====
section
/-! DEFINITION. The operand forms: how fields become bytes and bytes fields (R196–R201), the request engine's two body
checks (R186), the record check of LEG-LOAD (R15), and the movement of a BUFFER endpoint's address (R9–R11). -/

namespace Sys2Proof.Machine

/-! ## Bytes (R196) -/

/-- A number in n bytes, least significant byte first (R196). -/
def leBytes : Nat → Nat → List Byte
  | 0, _ => []
  | n + 1, v => BitVec.ofNat 8 v :: leBytes n (v / 256)

/-- The number some bytes carry, least significant byte first (R196). -/
def leNat : List Byte → Nat
  | [] => 0
  | b :: bs => b.toNat + 256 * leNat bs

/-- The field of n bytes at an offset of a body (R196). -/
def fieldAt (body : List Byte) (off n : Nat) : Nat := leNat ((body.drop off).take n)

/-- The byte at an offset of a body. -/
def byteAt (body : List Byte) (off : Nat) : Byte := body.getD off 0

/-- The 32-bit word at an offset of a body (R196). -/
def wordAt (body : List Byte) (off : Nat) : Word := BitVec.ofNat 32 (fieldAt body off 4)

/-- A word in four bytes (R196). -/
def wordBytes (w : Word) : List Byte := leBytes 4 w.toNat

/-- An index carried as a number, where it is below n. -/
def index? (n v : Nat) : Option (Fin n) := if h : v < n then some ⟨v, h⟩ else none

/-- A leg index or NONE as two bytes carry it: 0–511, or FFFFh for NONE; any other value is outside the field's set (R196). -/
def legOrNone? (v : Nat) : Option (Option LegIx) :=
  if v = 65535 then some none else (index? 512 v).map some

/-- The two bytes of a leg index or NONE (R196). -/
def legOrNoneBytes : Option LegIx → List Byte
  | none => leBytes 2 65535
  | some l => leBytes 2 l.val

/-- A port number or NONE as one byte carries it: 0–7, or FFh for NONE (R196). -/
def portOrNone? (v : Nat) : Option (Option PortIx) :=
  if v = 255 then some none else (index? 8 v).map some

/-- The byte of a port number or NONE (R196). -/
def portOrNoneBytes : Option PortIx → List Byte
  | none => leBytes 1 255
  | some p => leBytes 1 p.val

/-- The value of a flag in its bit of a flags byte (R196). -/
def flagBit (bit : Nat) (b : Bool) : Nat := if b then 2 ^ bit else 0

/-! ## Codes (R190, R197–R201) -/

/-- The code of a status (R190). -/
def Status.code : Status → Byte
  | .ok => 0x00 | .full => 0x01 | .tagBusy => 0x02 | .kind => 0x03 | .length => 0x04 | .field => 0x05 | .range => 0x06
  | .state => 0x07 | .inUse => 0x08 | .fence => 0x09 | .parity => 0x0A | .mode => 0x0B | .seq => 0x0C | .leg => 0x0D

/-- The code of a request kind (R197). -/
def ReqKind.code : ReqKind → Byte
  | .hello => 0x01 | .linkStatus => 0x02 | .engineReset => 0x03
  | .bufWrite => 0x10 | .bufRead => 0x11 | .fenceSet => 0x12 | .fenceRead => 0x13
  | .legLoad => 0x20 | .legRead => 0x21 | .legLink => 0x22
  | .slotSetup => 0x30 | .slotArm => 0x31 | .slotStart => 0x32 | .slotHold => 0x33 | .slotResume => 0x34
  | .slotCancel => 0x35 | .slotQuery => 0x36
  | .trigSet => 0x40 | .trigRead => 0x41
  | .portSetup => 0x50 | .portQuery => 0x51
  | .reportAck => 0x60 | .reportReplay => 0x61 | .reportGate => 0x62

/-- The 24 request kinds, in the order of their codes (R197). -/
def ReqKind.all : List ReqKind :=
  [.hello, .linkStatus, .engineReset, .bufWrite, .bufRead, .fenceSet, .fenceRead, .legLoad, .legRead, .legLink, .slotSetup,
    .slotArm, .slotStart, .slotHold, .slotResume, .slotCancel, .slotQuery, .trigSet, .trigRead, .portSetup, .portQuery,
    .reportAck, .reportReplay, .reportGate]

/-- The request kind a KIND byte names, where it is one of the 24 request codes (R180, check 1). -/
def ReqKind.ofCode? (b : Byte) : Option ReqKind := ReqKind.all.find? fun k => decide (k.code = b)

/-- The code of an event (R201). -/
def EventKind.code : EventKind → Nat
  | .burstEnd => 0 | .mark => 1 | .legEnd => 2 | .chainEnd => 3 | .fault => 4

/-- The event a code names (R107, R201). -/
def EventKind.ofCode? (v : Nat) : Option EventKind :=
  [EventKind.burstEnd, .mark, .legEnd, .chainEnd, .fault].find? fun k => decide (k.code = v)

/-- The code of an action (R201). -/
def Action.code : Action → Nat
  | .start => 0 | .arm => 1 | .hold => 2

/-- The action a code names (R107, R201). -/
def Action.ofCode? (v : Nat) : Option Action := [Action.start, .arm, .hold].find? fun k => decide (k.code = v)

/-- The code of MOVER-ACCESS (R201). -/
def MoverAccess.code : MoverAccess → Nat
  | .none => 0 | .read => 1 | .readWrite => 2

/-- The MOVER-ACCESS a code names (R150, R201). -/
def MoverAccess.ofCode? (v : Nat) : Option MoverAccess :=
  [MoverAccess.none, .read, .readWrite].find? fun k => decide (k.code = v)

/-- The code of HOST-ACCESS (R201). -/
def HostAccess.code : HostAccess → Nat
  | .readWrite => 0 | .read => 1

/-- The HOST-ACCESS a code names (R150, R201). -/
def HostAccess.ofCode? (v : Nat) : Option HostAccess := [HostAccess.readWrite, .read].find? fun k => decide (k.code = v)

/-- The code of DIRECTION (R201). -/
def Direction.code : Direction → Nat
  | .inward => 0 | .outward => 1

/-- The DIRECTION a code names (R125, R201). -/
def Direction.ofCode? (v : Nat) : Option Direction := [Direction.inward, .outward].find? fun k => decide (k.code = v)

/-- The code of a drop reason (R200). -/
def DropReason.code : DropReason → Nat
  | .credits => 0 | .mode => 1 | .state => 2 | .leg => 3 | .inUse => 4

/-- The code of a reset cause (R200). -/
def ResetCause.code : ResetCause → Nat
  | .power => 0 | .request => 1

/-- The code of an alarm (R200). -/
def Alarm.code : Alarm → Nat
  | .overrun => 0 | .underrun => 1

/-- The code of a slot's STATE (R199). -/
def Standing.code : Standing → Byte
  | .idle => 0x00
  | .inLeg _ .armed => 0x01
  | .inLeg _ .ready => 0x02
  | .inLeg _ .active => 0x03
  | .inLeg _ .suspended => 0x04
  | .inLeg _ (.paced _) => 0x05
  | .inLeg _ .held => 0x06
  | .done => 0x07
  | .inLeg _ (.faulted _) => 0x08

/-- The CODE of a fault (R199). -/
def FaultCause.code : FaultCause → Nat
  | .fenceRead _ => 1 | .fenceWrite _ => 2 | .parity _ => 3 | .digest _ _ => 4 | .leg => 5

/-- The optional fields of a fault, last in its record and its report (R199, R200). -/
def FaultCause.optionalBytes : FaultCause → List Byte
  | .fenceRead a | .fenceWrite a | .parity a => leBytes 2 a.toNat
  | .digest e a => wordBytes e ++ wordBytes a
  | .leg => []

/-- The code of a resume point (R199). -/
def ResumePoint.code : ResumePoint → Nat
  | .burst => 0 | .legEnd => 1

/-! ## The request engine's body checks (R186, R201) -/

/-- The body lengths allowed for a kind (R201). -/
def ReqKind.lengthOk (k : ReqKind) (n : Nat) : Bool :=
  match k with
  | .hello | .engineReset => decide (n = 0)
  | .linkStatus | .fenceRead | .slotArm | .slotHold | .slotResume | .slotCancel | .slotQuery | .trigRead
  | .reportGate => decide (n = 1)
  | .legRead | .slotStart | .portQuery | .reportAck | .reportReplay => decide (n = 2)
  | .bufRead => decide (n = 3)
  | .legLink | .portSetup => decide (n = 4)
  | .trigSet => decide (n = 6)
  | .slotSetup => decide (n = 8)
  | .fenceSet => decide (n = 10)
  | .legLoad => decide (n = 31) || decide (n = 35)
  | .bufWrite => decide (6 ≤ n) && decide (n ≤ 2 + 4 * Config.blockCap) && decide (n % 4 = 2)

/-- The one flags byte of a kind's body, where it has one: its offset and the number of named bits, which stand lowest (R198,
R199, R201). -/
def ReqKind.flagsByte? : ReqKind → Option (Nat × Nat)
  | .linkStatus => some (0, 1)
  | .fenceSet => some (1, 1)
  | .legLoad => some (30, 3)
  | .slotSetup => some (2, 3)
  | .trigSet => some (1, 2)
  | .portSetup => some (3, 1)
  | .portQuery => some (1, 1)
  | .reportGate => some (0, 1)
  | _ => none

/-- Every unused bit of the body is 0 (R186, step 2). -/
def ReqKind.unusedClear (k : ReqKind) (body : List Byte) : Bool :=
  match k.flagsByte? with
  | none => true
  | some (off, bits) => decide ((byteAt body off).toNat < 2 ^ bits)

/-- The request engine's refusal of a body, LENGTH before FIELD; none when both checks pass (R186). -/
def bodyRefusal? (k : ReqKind) (body : List Byte) : Option Status :=
  if !k.lengthOk body.length then some .length
  else if !k.unusedClear body then some .field
  else none

/-! ## Frames (R197) -/

/-- The bytes the frame check covers: LEN, KIND, TAG and the body (R177, R197). -/
def Frame.covered (f : Frame) : List Byte := BitVec.ofNat 8 (f.body.length + 2) :: f.kind :: f.tag :: f.body

/-- A frame as it stands on the line: SYNC, LEN, KIND, TAG, the body and the CRC, low byte first (R197). -/
def Frame.line (f : Frame) : List Byte :=
  Config.sync :: f.covered ++ leBytes 2 (frameCrc f.covered).toNat

/-- A reply's status and the fields that follow it (R197). -/
structure Reply where
  status : Status
  data : List Byte
  deriving DecidableEq, Repr

/-- A reply of a status alone (R197). -/
def Reply.bare (st : Status) : Reply := { status := st, data := [] }

/-- An OK reply with its fields (R197). -/
def Reply.okWith (data : List Byte) : Reply := { status := .ok, data := data }

/-- The frame of a reply: the request's KIND plus 80h, its TAG, STATUS and the fields (R187, R197). -/
def Reply.frame (kind : ReqKind) (tag : Byte) (r : Reply) : Frame :=
  { kind := kind.code + 0x80, tag := tag, body := r.status.code :: r.data }

/-- The immediate reply KIND (R180). -/
def kindFrame (tag : Byte) : Frame := { kind := 0xFF, tag := tag, body := [Status.kind.code] }

/-! ## Leg records (R3, R15, R198) -/

/-- The 29 or 33 bytes of a leg record as fields, before the record check (R198). -/
structure RawLeg where
  srcKind : Nat
  srcPort : Nat
  srcAddr : Nat
  srcValue : Word
  srcStep : Byte
  srcRing : Nat
  srcSkip : BitVec 16
  dstKind : Nat
  dstPort : Nat
  dstAddr : Nat
  dstStep : Byte
  dstRing : Nat
  dstSkip : BitVec 16
  burst : Nat
  count : Nat
  mark : Nat
  next : Nat
  flags : Byte
  expect : Option Word
  deriving DecidableEq, Repr

/-- The fields of a leg record's bytes; EXPECT is present in the 33-byte form only (R198). -/
def RawLeg.ofBytes (b : List Byte) : RawLeg :=
  { srcKind := fieldAt b 0 1, srcPort := fieldAt b 1 1, srcAddr := fieldAt b 2 2, srcValue := wordAt b 4,
    srcStep := byteAt b 8, srcRing := fieldAt b 9 1, srcSkip := BitVec.ofNat 16 (fieldAt b 10 2),
    dstKind := fieldAt b 12 1, dstPort := fieldAt b 13 1, dstAddr := fieldAt b 14 2,
    dstStep := byteAt b 16, dstRing := fieldAt b 17 1, dstSkip := BitVec.ofNat 16 (fieldAt b 18 2),
    burst := fieldAt b 20 2, count := fieldAt b 22 2, mark := fieldAt b 24 2, next := fieldAt b 26 2,
    flags := byteAt b 28,
    expect := if b.length = 33 then some (wordAt b 29) else none }

/-- The address fields of a BUFFER endpoint, where RING is at most 16 (R15). -/
def path? (addr : Nat) (step : Byte) (ring : Nat) (skip : BitVec 16) : Option Path :=
  (index? 17 ring).map fun k => { addr := BitVec.ofNat 16 addr, step := step, ring := k, skip := skip }

/-- The source endpoint, where its kind is known and every field that does not belong to it is 0 (R4, R15). -/
def RawLeg.source? (r : RawLeg) : Option Source :=
  if r.srcKind = 0 then
    if r.srcPort = 0 ∧ r.srcValue = 0 then (path? r.srcAddr r.srcStep r.srcRing r.srcSkip).map .buffer else none
  else if r.srcAddr = 0 ∧ r.srcStep = 0 ∧ r.srcRing = 0 ∧ r.srcSkip = 0 then
    if r.srcKind = 1 then
      if r.srcValue = 0 then (index? 8 r.srcPort).map .port else none
    else if r.srcKind = 2 then
      if r.srcPort = 0 then some (.const r.srcValue) else none
    else none
  else none

/-- The destination endpoint, where its kind is known and every field that does not belong to it is 0 (R5, R15). -/
def RawLeg.dest? (r : RawLeg) : Option Dest :=
  if r.dstKind = 0 then
    if r.dstPort = 0 then (path? r.dstAddr r.dstStep r.dstRing r.dstSkip).map .buffer else none
  else if r.dstKind = 1 ∧ r.dstAddr = 0 ∧ r.dstStep = 0 ∧ r.dstRing = 0 ∧ r.dstSkip = 0 then
    (index? 8 r.dstPort).map .port
  else none

/-- Both endpoints are PORT, which no leg may have (R5). -/
def portToPort : Source → Dest → Bool
  | .port _, .port _ => true
  | _, _ => false

/-- The record check of LEG-LOAD: the record, or none where the check refuses it with FIELD (R15). -/
def RawLeg.checked? (r : RawLeg) : Option LegRecord :=
  match r.source?, r.dest?, legOrNone? r.next with
  | some src, some dst, some next =>
    if 1 ≤ r.burst ∧ r.burst ≤ 256 ∧ 1 ≤ r.count ∧ r.mark < r.count ∧ portToPort src dst = false
        ∧ (r.expect.isSome = true → r.flags.getLsbD 2 = true) then
      some { src := src, dst := dst, burst := r.burst, count := r.count, mark := r.mark, next := next,
             endReport := r.flags.getLsbD 0, endHold := r.flags.getLsbD 1, digest := r.flags.getLsbD 2, expect := r.expect }
    else none
  | _, _, _ => none

/-- The 12 bytes of a source endpoint: fields that do not belong to its kind are 0 (R4, R198). -/
def Source.bytes : Source → List Byte
  | .buffer p => leBytes 1 0 ++ leBytes 1 0 ++ leBytes 2 p.addr.toNat ++ leBytes 4 0 ++ [p.step] ++ leBytes 1 p.ring.val
      ++ leBytes 2 p.skip.toNat
  | .port p => leBytes 1 1 ++ leBytes 1 p.val ++ leBytes 10 0
  | .const v => leBytes 1 2 ++ leBytes 1 0 ++ leBytes 2 0 ++ wordBytes v ++ leBytes 4 0

/-- The 8 bytes of a destination endpoint: fields that do not belong to its kind are 0 (R5, R198). -/
def Dest.bytes : Dest → List Byte
  | .buffer p => leBytes 1 0 ++ leBytes 1 0 ++ leBytes 2 p.addr.toNat ++ [p.step] ++ leBytes 1 p.ring.val
      ++ leBytes 2 p.skip.toNat
  | .port p => leBytes 1 1 ++ leBytes 1 p.val ++ leBytes 6 0

/-- EXPECT in four bytes when present, no byte when absent (R196, R198). -/
def optWordBytes : Option Word → List Byte
  | none => []
  | some w => wordBytes w

/-- The 29 or 33 bytes of a leg record (R198). -/
def LegRecord.bytes (l : LegRecord) : List Byte :=
  l.src.bytes ++ l.dst.bytes ++ leBytes 2 l.burst ++ leBytes 2 l.count ++ leBytes 2 l.mark ++ legOrNoneBytes l.next
    ++ leBytes 1 (flagBit 0 l.endReport + flagBit 1 l.endHold + flagBit 2 l.digest) ++ optWordBytes l.expect

/-! ## Slot records (R199) -/

/-- The seven setup fields at offset `off` of a body, where each is in its set (R24, R199). The flags' unused bits and PACE need
no check. -/
def setup? (b : List Byte) (off : Nat) : Option Setup :=
  match index? 8 (fieldAt b off 1), portOrNone? (fieldAt b (off + 2) 1), legOrNone? (fieldAt b (off + 5) 2) with
  | some priority, some port, some first =>
    some { priority := priority, yields := (byteAt b (off + 1)).getLsbD 0, preempt := (byteAt b (off + 1)).getLsbD 1,
           port := port, runLeg := (byteAt b (off + 1)).getLsbD 2, pace := fieldAt b (off + 3) 2, firstLeg := first }
  | _, _, _ => none

/-- The 7 bytes of the setup fields (R199). -/
def Setup.bytes (u : Setup) : List Byte :=
  leBytes 1 u.priority.val ++ leBytes 1 (flagBit 0 u.yields + flagBit 1 u.preempt + flagBit 2 u.runLeg)
    ++ portOrNoneBytes u.port ++ leBytes 2 u.pace ++ legOrNoneBytes u.firstLeg

/-- A fault record in 7, 9 or 15 bytes (R199). -/
def FaultRecord.bytes (f : FaultRecord) : List Byte :=
  leBytes 1 f.cause.code ++ leBytes 1 f.cause.resumePoint.code ++ leBytes 2 f.leg.val ++ leBytes 2 f.remaining
    ++ leBytes 1 f.element ++ f.cause.optionalBytes

/-- SLOT-FLAGS of a slot record (R199). -/
def Slot.flags (x : Slot) : Nat :=
  flagBit 0 x.holdRequested + flagBit 1 x.legRun + flagBit 2 x.timer.isSome + flagBit 3 x.currentLeg.isSome
    + flagBit 4 x.faultRecord.isSome

/-- A slot record: 23 bytes, CURRENT-LEG when present, the fault record when present (R199). -/
def Slot.bytes (x : Slot) : List Byte :=
  x.setup.bytes ++ [x.standing.code] ++ leBytes 1 x.flags ++ leBytes 1 x.credits ++ leBytes 2 x.src.toNat
    ++ leBytes 2 x.dst.toNat ++ leBytes 2 x.remaining ++ leBytes 1 x.element ++ wordBytes x.digest
    ++ leBytes 2 (x.timer.getD 0)
    ++ (match x.currentLeg with | none => [] | some l => leBytes 2 l.val)
    ++ (match x.faultRecord with | none => [] | some f => f.bytes)

/-! ## Fences, triggers, ports (R201) -/

/-- The five fields of a FENCE-SET body from offset 1, where each is in its set and the range ends by 65535 (R150, R201). -/
def fence? (b : List Byte) : Option Fence :=
  match MoverAccess.ofCode? (fieldAt b 8 1), HostAccess.ofCode? (fieldAt b 9 1) with
  | some m, some h =>
    if 1 ≤ fieldAt b 4 4 ∧ fieldAt b 4 4 ≤ 65536 ∧ fieldAt b 2 2 + fieldAt b 4 4 ≤ 65536 then
      some { enabled := (byteAt b 1).getLsbD 0, base := BitVec.ofNat 16 (fieldAt b 2 2), size := fieldAt b 4 4, mover := m,
             host := h }
    else none
  | _, _ => none

/-- The nine bytes of a fence entry after ENTRY (R201). -/
def Fence.bytes (f : Fence) : List Byte :=
  leBytes 1 (flagBit 0 f.enabled) ++ leBytes 2 f.base.toNat ++ leBytes 4 f.size ++ leBytes 1 f.mover.code
    ++ leBytes 1 f.host.code

/-- The six fields of a TRIG-SET body from offset 1, where each is in its set (R107, R201). -/
def trigger? (b : List Byte) : Option Trigger :=
  match EventKind.ofCode? (fieldAt b 2 1), index? 16 (fieldAt b 3 1), index? 16 (fieldAt b 4 1), Action.ofCode? (fieldAt b 5 1) with
  | some e, some src, some tgt, some a =>
    some { enabled := (byteAt b 1).getLsbD 0, oneShot := (byteAt b 1).getLsbD 1, event := e, source := src, target := tgt,
           action := a }
  | _, _, _, _ => none

/-- The five bytes of a trigger entry after ENTRY (R201). -/
def Trigger.bytes (t : Trigger) : List Byte :=
  leBytes 1 (flagBit 0 t.enabled + flagBit 1 t.oneShot) ++ leBytes 1 t.event.code ++ leBytes 1 t.source.val
    ++ leBytes 1 t.target.val ++ leBytes 1 t.action.code

/-- The PORT-QUERY reply fields of a port with its bound slot (R137, R201). -/
def Port.bytes (p : Port) (bound : Option SlotIx) : List Byte :=
  leBytes 1 p.direction.code ++ leBytes 1 p.threshold
    ++ leBytes 1 (flagBit 0 p.enable + flagBit 1 p.condition + flagBit 2 p.overrun + flagBit 3 p.underrun
      + flagBit 4 bound.isSome)
    ++ leBytes 1 p.occupancy ++ leBytes 1 p.tentative ++ leBytes 1 p.committed ++ leBytes 1 p.staged
    ++ leBytes 2 p.overrunCount ++ leBytes 2 p.underrunCount
    ++ (match bound with | none => [] | some i => leBytes 1 i.val)

/-- The LINK-STATUS reply fields (R192, R201). -/
def Counters.bytes (c : Counters) : List Byte :=
  leBytes 2 c.crcErrors ++ leBytes 2 c.lengthErrors ++ leBytes 2 c.gapTimeouts ++ leBytes 2 c.breaks
    ++ leBytes 2 c.fullRejects ++ leBytes 2 c.duplicates ++ leBytes 2 c.replays ++ leBytes 2 c.replyDrops

/-- The HELLO reply fields at a rate code (R191, R201). -/
def helloBytes (rate : BitVec 2) : List Byte :=
  leBytes 1 0x43 ++ leBytes 2 0x3216 ++ leBytes 1 1 ++ leBytes 1 16 ++ leBytes 2 512 ++ leBytes 1 8 ++ leBytes 1 32
    ++ leBytes 1 8 ++ leBytes 4 65536 ++ leBytes 1 Config.reportCap ++ leBytes 1 Config.inboxCap ++ leBytes 1 rate.toNat

/-! ## Reports (R200) -/

/-- The KIND code of a report (R197). -/
def ReportBody.code : ReportBody → Byte
  | .resetDone _ => 0xF0
  | .legEnd _ _ _ _ => 0xF1
  | .chainEnd _ _ _ => 0xF2
  | .mark _ _ _ => 0xF3
  | .held _ _ _ => 0xF4
  | .cancelled _ _ _ _ => 0xF5
  | .fault _ _ => 0xF6
  | .portAlarm _ _ => 0xF7
  | .triggerDrop _ _ _ => 0xF8
  | .loss _ => 0xF9

/-- The fields of a report after SEQ (R200). -/
def ReportBody.bytes : ReportBody → List Byte
  | .resetDone c => leBytes 1 c.code
  | .legEnd i l n d => leBytes 1 i.val ++ leBytes 2 l.val ++ leBytes 2 n ++ optWordBytes d
  | .chainEnd i l c => leBytes 1 i.val ++ leBytes 2 l.val ++ leBytes 1 c
  | .mark i l n => leBytes 1 i.val ++ leBytes 2 l.val ++ leBytes 2 n
  | .held i l n => leBytes 1 i.val ++ leBytes 2 l.val ++ leBytes 2 n
  | .cancelled i l n e =>
    leBytes 1 i.val ++ leBytes 2 n ++ leBytes 1 e ++ (match l with | none => [] | some k => leBytes 2 k.val)
  | .fault i f =>
    leBytes 1 i.val ++ leBytes 1 f.cause.code ++ leBytes 2 f.leg.val ++ leBytes 2 f.remaining ++ leBytes 1 f.element
      ++ f.cause.optionalBytes
  | .portAlarm p a => leBytes 1 p.val ++ leBytes 1 a.code
  | .triggerDrop k i r => leBytes 1 k.val ++ leBytes 1 i.val ++ leBytes 1 r.code
  | .loss n => leBytes 2 n

/-- The frame of a report: its kind's code, the low byte of SEQ as TAG, and SEQ before the fields (R163, R200). -/
def Report.frame (r : Report) : Frame :=
  { kind := r.body.code, tag := r.seq.setWidth 8, body := leBytes 2 r.seq.toNat ++ r.body.bytes }

/-! ## Address movement (R9–R11) -/

/-- The address moved by a signed amount, under the endpoint's ring: modulo 65536 with no ring, and inside the aligned window of
2^k words with ring k (R9, R10). -/
def Path.moved (p : Path) (a : Addr) (amount : Int) : Addr :=
  if p.ring.val = 0 then BitVec.ofInt 16 ((a.toNat : Int) + amount)
  else
    BitVec.ofNat 16
      (a.toNat / 2 ^ p.ring.val * 2 ^ p.ring.val
        + (((a.toNat % 2 ^ p.ring.val : Nat) + amount) % ((2 ^ p.ring.val : Nat) : Int)).toNat)

/-- The source address after an element's step (R9, R56). -/
def LegRecord.srcStepped (l : LegRecord) (a : Addr) : Addr :=
  match l.src with
  | .buffer p => p.moved a p.step.toInt
  | _ => a

/-- The destination address after an element's step (R9, R56). -/
def LegRecord.dstStepped (l : LegRecord) (a : Addr) : Addr :=
  match l.dst with
  | .buffer p => p.moved a p.step.toInt
  | _ => a

/-- The source address after a burst commit's skip (R11). -/
def LegRecord.srcSkipped (l : LegRecord) (a : Addr) : Addr :=
  match l.src with
  | .buffer p => p.moved a p.skip.toInt
  | _ => a

/-- The destination address after a burst commit's skip (R11). -/
def LegRecord.dstSkipped (l : LegRecord) (a : Addr) : Addr :=
  match l.dst with
  | .buffer p => p.moved a p.skip.toInt
  | _ => a

end Sys2Proof.Machine
end

