-- ==== Sys2Proof/Machine/Ops.lean ====
section
/-! DEFINITION. The named operations over the blocks' state that the meanings share: tables, buffer memory, reports, slot
events, the link's replies, and taking a request out of the inbox. -/

namespace Sys2Proof.Machine

/-! ## Tables -/

/-- A slot record. -/
def State.slot (s : State) (i : SlotIx) : Slot := s.slots.get i

/-- The state with one slot record changed. -/
def State.updSlot (s : State) (i : SlotIx) (f : Slot → Slot) : State := { s with slots := s.slots.set i (f (s.slot i)) }

/-- A leg entry. -/
def State.leg (s : State) (l : LegIx) : LegEntry := s.legs.get l

/-- The state with one leg entry changed. -/
def State.updLeg (s : State) (l : LegIx) (f : LegEntry → LegEntry) : State := { s with legs := s.legs.set l (f (s.leg l)) }

/-- A port. -/
def State.port (s : State) (p : PortIx) : Port := s.ports.get p

/-- The state with one port changed. -/
def State.updPort (s : State) (p : PortIx) (f : Port → Port) : State := { s with ports := s.ports.set p (f (s.port p)) }

/-- A trigger entry. -/
def State.trigger (s : State) (k : TrigIx) : Trigger := s.triggers.get k

/-- The state with one trigger entry written. -/
def State.setTrigger (s : State) (k : TrigIx) (t : Trigger) : State := { s with triggers := s.triggers.set k t }

/-- A fence entry. -/
def State.fence (s : State) (k : FenceIx) : Fence := s.fences.get k

/-- The state with one fence entry written. -/
def State.setFence (s : State) (k : FenceIx) (f : Fence) : State := { s with fences := s.fences.set k f }

/-- The state with the mover changed. -/
def State.setMover (s : State) (m : Mover) : State := { s with arb := { s.arb with mover := m } }

/-- The state with the suspension stack changed. -/
def State.setStack (s : State) (st : List Suspended) : State := { s with arb := { s.arb with stack := st } }

/-- The state with the link changed. -/
def State.updLink (s : State) (f : Link → Link) : State := { s with link := f s.link }

/-- The state with the link counters changed. -/
def State.count (s : State) (f : Counters → Counters) : State := s.updLink fun k => { k with counters := f k.counters }

/-- The state with the report queue changed. -/
def State.updReports (s : State) (f : ReportQueue → ReportQueue) : State := { s with reports := f s.reports }

/-- The state with a slot moved to another of the states that hold a leg, its current leg kept. -/
def State.setLegState (s : State) (i : SlotIx) (l : LegIx) (st : LegState) : State :=
  s.updSlot i fun x => { x with standing := .inLeg l st }

/-! ## Buffer memory (R141) -/

/-- What a word that is not listed reads as: a good zero, as start-up leaves it (R144). -/
def BufWord.unlisted : BufWord := .good 0

/-- The buffer word at an address. -/
def memRead : List (Nat × BufWord) → Nat → BufWord
  | [], _ => BufWord.unlisted
  | (b, w) :: rest, a => if a = b then w else memRead rest a

/-- The memory with one buffer word written: the list stays in rising order and lists no word that reads as an unlisted one. -/
def memWrite : List (Nat × BufWord) → Nat → BufWord → List (Nat × BufWord)
  | [], a, w => if w = BufWord.unlisted then [] else [(a, w)]
  | (b, v) :: rest, a, w =>
    if a < b then
      if w = BufWord.unlisted then (b, v) :: rest else (a, w) :: (b, v) :: rest
    else if a = b then
      if w = BufWord.unlisted then rest else (a, w) :: rest
    else (b, v) :: memWrite rest a w

/-- The canonical form of the memory: addresses strictly rise and are buffer addresses, and no listed word reads as an unlisted
one. -/
def memWf : List (Nat × BufWord) → Bool
  | [] => true
  | [(a, w)] => decide (a < 65536) && decide (w ≠ BufWord.unlisted)
  | (a, w) :: (b, v) :: rest =>
    decide (a < 65536) && decide (w ≠ BufWord.unlisted) && decide (a < b) && memWf ((b, v) :: rest)

/-- The memory with the buffer words from `lo` to below `hi` written with zero: they are listed no more. -/
def memZero (m : List (Nat × BufWord)) (lo hi : Nat) : List (Nat × BufWord) :=
  m.filter fun e => !(decide (lo ≤ e.1) && decide (e.1 < hi))

/-- The buffer word at an address of the part. -/
def State.word (s : State) (a : Addr) : BufWord := memRead s.mem a.toNat

/-- The part with one buffer word replaced. -/
def State.setWord (s : State) (a : Addr) (w : BufWord) : State := { s with mem := memWrite s.mem a.toNat w }

/-- The part with a value written: every write clears the DAMAGED mark (R141). -/
def State.writeWord (s : State) (a : Addr) (v : Word) : State := s.setWord a (.good v)

/-- The part with consecutive words written from an address, in address order (R153). -/
def State.writeWords (s : State) (a : Addr) : List Word → State
  | [] => s
  | w :: ws => (s.writeWord a w).writeWords (a + 1) ws

/-- The addresses of a host block, in rising order. -/
def blockAddrs (a : Addr) (n : Nat) : List Addr := (List.range n).map fun k => a + BitVec.ofNat 16 k

/-! ## Reports (R160) -/

/-- A report reaches the queue: appended with the next SEQ below 32 reports, counted in LOST at 32 (R160). -/
def ReportQueue.take (q : ReportQueue) (b : ReportBody) : ReportQueue :=
  if q.queue.length < Config.reportCap then
    { q with queue := q.queue ++ [{ seq := q.nextSeq, body := b, sent := false }], nextSeq := q.nextSeq + 1 }
  else { q with lost := bump q.lost }

/-- A report reaches the report queue (R159, R160). -/
def State.report (s : State) (b : ReportBody) : State := s.updReports fun q => q.take b

/-! ## Slot events (R109) -/

/-- An ENGINE-RESET is executing and waits for the element in flight (R193). -/
def State.resetWaits (s : State) : Bool :=
  match s.link.executing with
  | some e => decide (e.waits = .engineReset)
  | none => false

/-- A slot event is passed to the trigger table; none is while an ENGINE-RESET waits for the element (R109). -/
def State.pass (s : State) (k : EventKind) (i : SlotIx) : State :=
  if s.resetWaits then s else { s with events := s.events ++ [{ kind := k, slot := i }] }

/-! ## Replies (R184, R187, R188) -/

/-- The places of the reply queue reserved for the executing request: one while a request executes (R185). -/
def Link.reserved (k : Link) : Nat := if k.executing.isSome then 1 else 0

/-- The reply cache with an entry added; the oldest is removed first when it holds 16 (R184). -/
def cacheAdd (cache : List CacheEntry) (e : CacheEntry) : List CacheEntry :=
  (if cache.length < Config.cacheCap then cache else cache.drop 1) ++ [e]

/-- The reply of an executed request is queued at the back of the reply queue and added to the reply cache; the request then
stops being the executing request (R184, R187, R188). -/
def State.answer (s : State) (r : Request) (rep : Reply) : State :=
  s.updLink fun k =>
    { k with
      executing := none
      replies := k.replies ++ [rep.frame r.kind r.tag]
      cache := cacheAdd k.cache { tag := r.tag, crc := r.crc, reply := rep.frame r.kind r.tag } }

/-- An immediate reply is queued when the replies held and the place reserved number fewer than 12, and is dropped and counted
otherwise (R188). -/
def State.immediate (s : State) (f : Frame) : State :=
  if s.link.replies.length + s.link.reserved < Config.replyCap then
    s.updLink fun k => { k with replies := k.replies ++ [f] }
  else s.count fun c => { c with replyDrops := bump c.replyDrops }

/-- The request engine takes the oldest inbox request, if it is of the kind named: no request executes and the reply queue holds
fewer than 12 replies (R185). -/
def State.takeRequest? (s : State) (k : ReqKind) : Option (Request × State) :=
  if s.phase = .running ∧ s.link.executing = none ∧ s.link.replies.length < Config.replyCap then
    match s.link.inbox with
    | [] => none
    | r :: rest => if r.kind = k then some (r, s.updLink fun l => { l with inbox := rest }) else none
  else none

/-- The executing request is held by its owner: it waits (R185). -/
def State.holdEngine (s : State) (r : Request) (w : Wait) : State :=
  s.updLink fun k =>
    { k with executing := some { request := r, waits := w, reportsAtTake := s.reports.queue.length } }

/-- A request row of the table: the engine takes the oldest inbox request if it is of this kind, makes the body checks, and hands
it to its owner; it answers a refused body itself (R185–R187). Where the engine takes none, the row's step cannot come about,
and nothing changes (notes/assumptions/4.md). -/
def State.serve (s : State) (k : ReqKind) (owner : Request → State → Host.Outcome State Fault Refusal) :
    Host.Outcome State Fault Refusal :=
  match s.takeRequest? k with
  | none => .next s
  | some (r, t) =>
    match bodyRefusal? k r.body with
    | some st => .next (t.answer r (Reply.bare st))
    | none => owner r t

/-- A request row whose owner answers in the same step: the owner gives the new state and the reply. -/
def State.serveNow (s : State) (k : ReqKind) (owner : List Byte → State → State × Reply) :
    Host.Outcome State Fault Refusal :=
  s.serve k fun r t => .next ((owner r.body t).1.answer r (owner r.body t).2)

/-- A row that is not a request takes effect only while the part runs: while RESET is low and during start-up the receiver ignores
RXD and every block holds its power-reset values (R139, R195). -/
def State.whenRunning (s : State) (f : State → State) : Host.Outcome State Fault Refusal :=
  .next (if s.phase = .running then f s else s)

end Sys2Proof.Machine
end

