-- ==== Sys2Proof/Machine/Transfer.lean ====
section
/-! DEFINITION. The shared operations of the transfer side: binding and the leg check, pins and leg entry, the arbiter's grant,
selection and pop, the buffer arbiter, rollback, leg-end processing, the burst commit, faults, holds, credits, arming and
cancelling. The meanings of the requests, of the trigger actions and of ELEMENT are short combinations of these. -/

namespace Sys2Proof.Machine

/-! ## Binding and the leg check -/

/-- The slot bound to a port; at most one is (R25). -/
def State.boundSlot (s : State) (p : PortIx) : Option SlotIx := (List.finRange 16).find? fun i => (s.slot i).boundTo p

/-- Another slot outside IDLE is bound to the port (R24, R32). -/
def State.portHeldByOther (s : State) (i : SlotIx) (p : PortIx) : Bool :=
  (List.finRange 16).any fun j => decide (j ≠ i) && (s.slot j).boundTo p

/-- The port named by the PORT of slot i is held by another slot (R24, R32). -/
def State.portTaken (s : State) (i : SlotIx) (port : Option PortIx) : Bool :=
  match port with
  | none => false
  | some p => s.portHeldByOther i p

/-- Part 2 of the leg check: the leg's port endpoint, or the lack of one, agrees with the slot's PORT (R30). -/
def bindingMatch (port : Option PortIx) (l : LegRecord) : Bool :=
  match port with
  | none => l.srcPort.isNone && l.dstPort.isNone
  | some p => decide (l.srcPort = some p) || decide (l.dstPort = some p)

/-- Part 3 of the leg check: the port is set up to suit the leg (R30). -/
def portSuits (port : Option PortIx) (l : LegRecord) (ports : Vector Port 8) : Bool :=
  match port with
  | none => true
  | some p =>
    (ports.get p).enable
      && decide ((ports.get p).direction = if l.srcPort = some p then .inward else .outward)
      && decide (l.burst ≤ (ports.get p).threshold)

/-- The leg check of R30: LOADED, binding match, port setup, as the leg store and the ports stand. -/
def State.legCheck (s : State) (port : Option PortIx) (l : LegIx) : Bool :=
  match (s.leg l).record with
  | none => false
  | some r => bindingMatch port r && portSuits port r s.ports

/-! ## Pins and leg entry -/

/-- A pin is taken on a leg (R13). -/
def State.pin (s : State) (l : LegIx) : State := s.updLeg l fun e => { e with pins := e.pins + 1 }

/-- A pin on a leg is given up (R13). -/
def State.unpin (s : State) (l : LegIx) : State := s.updLeg l fun e => { e with pins := e.pins - 1 }

/-- The slot's context at the entry of a leg (R31), and the state it goes to. CREDITS and HOLD-REQUESTED are the caller's. -/
def Slot.entered (x : Slot) (l : LegIx) (r : LegRecord) (st : LegState) : Slot :=
  { x with
    standing := .inLeg l st, src := r.srcAddr, dst := r.dstAddr, remaining := r.count, element := 0,
    digest := Config.digestInit, legRun := false }

/-! ## The buffer arbiter (R145, R146) -/

/-- The element in flight belongs to a leg with a BUFFER endpoint (R52). -/
def State.bufferInFlight (s : State) : Bool :=
  match s.arb.mover with
  | .busy i _ =>
    match (s.slot i).currentLeg with
    | some l =>
      match (s.leg l).record with
      | some r => r.usesBuffer
      | none => false
    | none => false
  | _ => false

/-- An element has come into flight. If it needs the buffer and a host block holds the grant, it asks and joins WAITING (R146).
Otherwise its ask is taken where it is granted: in its own step, or at a host block's ask (notes/assumptions/5.md). -/
def State.elementBegins (s : State) : State :=
  if s.bufferInFlight = true ∧ s.bufArb.grant = some .link then
    { s with bufArb := { s.bufArb with waiting := some .mover } }
  else s

/-- An element that used the buffer completes: the grant goes to a waiting host block, or to nobody (R146). -/
def BufArbiter.elementDone (b : BufArbiter) : BufArbiter :=
  match b.waiting with
  | some .link => { grant := some .link, waiting := none, last := .link, fencesAtGrant := none, fencesReplaced := [] }
  | _ => { grant := none, waiting := none, last := .mover, fencesAtGrant := none, fencesReplaced := [] }

/-- A host block completes: the grant goes to a waiting element, under the fence table as it stands, or to nobody (R53, R146). -/
def BufArbiter.blockDone (b : BufArbiter) (fences : Vector Fence 8) : BufArbiter :=
  match b.waiting with
  | some .mover => { grant := some .mover, waiting := none, last := .mover, fencesAtGrant := some fences, fencesReplaced := [] }
  | _ => { grant := none, waiting := none, last := .link, fencesAtGrant := none, fencesReplaced := [] }

/-- The element in flight has been granted at some time since it came into flight, and the host block joins WAITING (R146). -/
def BufArbiter.elementHeld (b : BufArbiter) : BufArbiter := { b with grant := some .mover, waiting := some .link, last := .mover }

/-- The element in flight is granted now, under the fence table as it stands, and the host block joins WAITING (R53, R146). -/
def BufArbiter.elementHolds (fences : Vector Fence 8) : BufArbiter :=
  { grant := some .mover, waiting := some .link, last := .mover, fencesAtGrant := some fences, fencesReplaced := [] }

/-- The host block holds the grant, and the element in flight joins WAITING (R146). -/
def BufArbiter.blockHolds : BufArbiter :=
  { grant := some .link, waiting := some .mover, last := .link, fencesAtGrant := none, fencesReplaced := [] }

/-- A host block asks the buffer arbiter (R146). With GRANT NONE and no element in flight that needs the buffer it is granted at
once; against such an element the order is the command's operand, and LAST-GRANT decides when both come together. -/
def State.blockAsks (s : State) (order : AskOrder) : State :=
  match s.bufArb.grant with
  | some _ => { s with bufArb := { s.bufArb with waiting := some .link } }
  | none =>
    if s.bufferInFlight then
      match order, s.bufArb.last with
      | .elementFirst, _ => { s with bufArb := s.bufArb.elementHeld }
      | .together, .link => { s with bufArb := BufArbiter.elementHolds s.fences }
      | .blockFirst, _ | .together, .mover => { s with bufArb := BufArbiter.blockHolds }
    else { s with bufArb := { grant := some .link, waiting := none, last := .link, fencesAtGrant := none, fencesReplaced := [] } }

/-- The fence table an element is checked against: as it stood when the element was granted (R53). Where no earlier step has fixed that,
the last `setsAfterGrant` FENCE-SETs came after the grant; with fewer taken meanwhile, all of them did (R150). -/
def State.elementFences (s : State) (setsAfterGrant : Nat) : Vector Fence 8 :=
  match s.bufArb.fencesAtGrant with
  | some fences => fences
  | none => (s.bufArb.fencesReplaced.take setsAfterGrant).getLastD s.fences

/-- The buffer arbiter's record of a fence table that a FENCE-SET replaces: it is kept while an element in flight may have been granted
under it (R150). -/
def State.keepFences (s : State) : BufArbiter :=
  if s.bufferInFlight = true ∧ s.bufArb.grant = none then
    { s.bufArb with fencesReplaced := s.fences :: s.bufArb.fencesReplaced }
  else s.bufArb

/-- An accepted FENCE-SET: the entry is written, and the element in flight may still complete under the old table (R150). -/
def State.takeFence (s : State) (k : FenceIx) (f : Fence) : State := { s.setFence k f with bufArb := s.keepFences }

/-! ## The arbiter (R72–R88) -/

/-- The distance of a slot from the round-robin pointer, counting upward from the pointer plus 1 and wrapping; a slot that equals
the pointer is met last (R74). -/
def turn (pointer i : SlotIx) : Nat := (i.val + 15 - pointer.val) % 16

/-- Slot i goes before slot j among ready slots: higher PRIORITY, and within a level the one met first (R74). -/
def State.before (s : State) (i j : SlotIx) : Bool :=
  decide ((s.slot j).setup.priority < (s.slot i).setup.priority)
    || (decide ((s.slot i).setup.priority = (s.slot j).setup.priority)
      && decide (turn (s.arb.pointers.get (s.slot i).setup.priority) i < turn (s.arb.pointers.get (s.slot i).setup.priority) j))

/-- The ready set, as the list of the slots in READY (R72). -/
def State.readySet (s : State) : List SlotIx := (List.finRange 16).filter fun i => (s.slot i).isReady

/-- The best ready slot: the member no other member goes before (R74). -/
def State.bestReady (s : State) : Option SlotIx :=
  s.readySet.find? fun i => s.readySet.all fun j => decide (j = i) || s.before i j

/-- The snapshot and the slot at a burst start: the table of R50. -/
def Slot.burstStart (x : Slot) (l : LegIx) : Slot × Snapshot :=
  let snap : Snapshot := { src := x.src, dst := x.dst, digest := x.digest, creditUsed := false, runSet := false }
  let y := { x with standing := .inLeg l .active }
  match x.setup.port with
  | some _ => (y, snap)
  | none =>
    if x.setup.runLeg then
      if x.legRun then (y, snap)
      else ({ y with credits := x.credits - 1, legRun := true }, { snap with creditUsed := true, runSet := true })
    else ({ y with credits := x.credits - 1 }, { snap with creditUsed := true })

/-- The grant of the mover to a READY slot (R75): it leaves the ready set and becomes ACTIVE, its level's pointer names it, its burst
starts, and element 0 is in flight. -/
def State.grant (s : State) (i : SlotIx) : State :=
  match (s.slot i).standing with
  | .inLeg l .ready =>
    State.elementBegins
      { s with
        slots := s.slots.set i ((s.slot i).burstStart l).1
        arb :=
          { s.arb with
            pointers := s.arb.pointers.set (s.slot i).setup.priority i
            mover := .busy i ((s.slot i).burstStart l).2 } }
  | _ => s

/-- The pop of a stack entry (R83): its slot is ACTIVE again, its snapshot returns to the mover, and its element in flight is the one
its ELEMENT names. -/
def State.pop (s : State) (top : Suspended) (rest : List Suspended) : State :=
  match (s.slot top.slot).standing with
  | .inLeg l _ =>
    State.elementBegins
      (((s.setLegState top.slot l .active).setStack rest).setMover (.busy top.slot top.snapshot))
  | _ => (s.setStack rest).setMover .idle

/-- The selection at a release of the mover (R81, R82). -/
def State.select (s : State) : State :=
  match s.arb.stack, s.bestReady with
  | [], none => s.setMover .idle
  | [], some r => (s.setMover .idle).grant r
  | top :: rest, none => s.pop top rest
  | top :: rest, some r =>
    if (s.slot top.slot).setup.priority < (s.slot r).setup.priority ∧ (s.slot r).setup.preempt = true then s.grant r
    else s.pop top rest

/-- The evaluation of eligibility (R37): an eligible ARMED slot becomes READY, and is granted at once when the mover is idle
(R76). -/
def State.evaluate (s : State) (i : SlotIx) : State :=
  match (s.slot i).standing with
  | .inLeg l .armed =>
    if (s.slot i).eligible s.ports then
      match s.arb.mover with
      | .idle => (s.setLegState i l .ready).grant i
      | _ => s.setLegState i l .ready
    else s
  | _ => s

/-- A change of a port's setup or counts has been made; `was` is its request condition before. A rise is signalled to the bound slot,
where eligibility is evaluated (R132). -/
def State.signal (s : State) (p : PortIx) (was : Bool) : State :=
  if was = false ∧ (s.port p).condition = true then
    match s.boundSlot p with
    | some i => s.evaluate i
    | none => s
  else s

/-- The preemption check of the ACTIVE slot a, and the suspension it may make (R78, R79). Where the slot stays ACTIVE its next
element comes into flight. -/
def State.preemptionCheck (s : State) (a : SlotIx) (l : LegIx) (snap : Snapshot) : State :=
  match s.bestReady with
  | some r =>
    if (s.slot a).setup.priority < (s.slot r).setup.priority ∧ (s.slot r).setup.preempt = true
        ∧ (s.slot a).setup.yields = true ∧ s.arb.stack.length < Config.stackCap then
      ((s.setLegState a l .suspended).setStack ({ slot := a, snapshot := snap } :: s.arb.stack)).grant r
    else s.elementBegins
  | none => s.elementBegins

/-! ## Outstanding credits and rollback -/

/-- The outstanding credit of a slot: the credit its burst in flight has used (R33, R49). -/
def State.outstanding (s : State) (i : SlotIx) : Nat :=
  (match s.arb.mover with
    | .busy j snap => if j = i ∧ snap.creditUsed = true then 1 else 0
    | _ => 0)
  + (s.arb.stack.filter fun e => decide (e.slot = i) && e.snapshot.creditUsed).length

/-- The slot's part of a rollback (R67). -/
def Slot.rolledBack (x : Slot) (snap : Snapshot) : Slot :=
  { x with
    src := snap.src, dst := snap.dst, digest := snap.digest, element := 0
    credits := if snap.creditUsed then x.credits + 1 else x.credits
    legRun := if snap.runSet then false else x.legRun }

/-- A port gives back its tentative words and discards its staged words (R67, R128, R130). -/
def Port.settledBack (p : Port) : Port :=
  { p with fifo := p.fifo.take (p.fifo.length - p.staged), tentative := 0, staged := 0 }

/-- A port's words are made final: the tentative words leave, the staged words become committed (R60). -/
def Port.committedWords (p : Port) : Port := { p with fifo := p.fifo.drop p.tentative, tentative := 0, staged := 0 }

/-- The port endpoint of the leg a slot stands in. -/
def State.legPort (s : State) (l : LegIx) : Option PortIx :=
  match (s.leg l).record with
  | some r => r.srcPort.or r.dstPort
  | none => none

/-- The port words of a burst of leg l are settled back (R67). -/
def State.settleBack (s : State) (l : LegIx) : State :=
  match s.legPort l with
  | some p => s.updPort p Port.settledBack
  | none => s

/-- The rollback of the burst of slot i, which stands in leg l (R67). The caller completes the slot's change of state (R68); an
outbound condition that rises with the discard finds the slot IDLE or FAULTED, or the part in reset, and has no effect there. -/
def State.rollback (s : State) (i : SlotIx) (l : LegIx) (snap : Snapshot) : State :=
  (s.updSlot i fun x => x.rolledBack snap).settleBack l

/-! ## Holds -/

/-- The slot is HELD in leg l, HOLD-REQUESTED is clear, and a HELD report is sent (R40, R41, R66). -/
def State.becomeHeld (s : State) (i : SlotIx) (l : LegIx) : State :=
  (s.updSlot i fun x => { x with standing := .inLeg l .held, holdRequested := false }).report
    (.held i l (s.slot i).remaining)

/-- A hold reaches a slot, from SLOT-HOLD or a HOLD action (R40, R115); none where it is refused. -/
def State.hold? (s : State) (i : SlotIx) : Option State :=
  match (s.slot i).standing with
  | .inLeg l .armed | .inLeg l .ready | .inLeg l (.paced _) =>
    some ((s.setLegState i l .held).report (.held i l (s.slot i).remaining))
  | .inLeg _ .active | .inLeg _ .suspended => some (s.updSlot i fun x => { x with holdRequested := true })
  | .inLeg _ .held => some s
  | .idle | .done | .inLeg _ (.faulted _) => none

/-! ## Credits -/

/-- Why credits are refused: the slot is bound, is IDLE or DONE, or would pass the limit (R34, R113). -/
inductive CreditRefusal where
  | mode | state | limit
  deriving DecidableEq, Repr

/-- n credits reach a slot, from SLOT-START or a START action: checks 3 to 5 of R34, then the addition, with eligibility evaluated in
ARMED (R34, R113). -/
def State.addCredits (s : State) (i : SlotIx) (n : Nat) : Except CreditRefusal State :=
  if (s.slot i).isBound then .error .mode
  else if (s.slot i).atRest then .error .state
  else if Config.creditCap < (s.slot i).credits + s.outstanding i + n then .error .limit
  else .ok ((s.updSlot i fun x => { x with credits := x.credits + n }).evaluate i)

/-! ## Arming -/

/-- Why an arm is refused: the state, the leg, or the port held by another slot (R32, R114). -/
inductive ArmRefusal where
  | state | leg | inUse
  deriving DecidableEq, Repr

/-- An arm reaches a slot, from SLOT-ARM or an ARM action: checks 2 to 5 of R32, then the entry of FIRST-LEG with CREDITS 0 and
HOLD-REQUESTED clear, ARMED, and eligibility evaluated (R32, R114). -/
def State.arm (s : State) (i : SlotIx) : Except ArmRefusal State :=
  if (s.slot i).atRest then
    match (s.slot i).setup.firstLeg with
    | none => .error .leg
    | some l =>
      if s.portTaken i (s.slot i).setup.port then .error .inUse
      else if s.legCheck (s.slot i).setup.port l then
        match (s.leg l).record with
        | some r =>
          .ok (((s.updSlot i fun x => { x.entered l r .armed with credits := 0, holdRequested := false }).pin l).evaluate i)
        | none => .error .leg
      else .error .leg
  else .error .state

/-! ## Faults (R92–R94) -/

/-- The slot enters FAULTED in leg l with a new fault record; HOLD-REQUESTED is cleared. One FAULT report is appended and one FAULT
event passed, unless an ENGINE-RESET waits for the element (R92–R95). -/
def State.enterFaulted (s : State) (i : SlotIx) (l : LegIx) (cause : FaultCause) (element : Nat) : State :=
  let record : FaultRecord := { cause := cause, leg := l, remaining := (s.slot i).remaining, element := element }
  let t := s.updSlot i fun x => { x with standing := .inLeg l (.faulted record), holdRequested := false }
  if s.resetWaits then t else (t.report (.fault i record)).pass .fault i

/-! ## Leg-end processing (R62–R66) -/

/-- Where a slot goes with a leg to run and no hold to take: PACED when a commit leads here and PACE is above 0, otherwise ARMED with
eligibility evaluated (R38, R66, R99). -/
def State.goOn (s : State) (i : SlotIx) (l : LegIx) (atCommit : Bool) : State :=
  if atCommit = true ∧ 0 < (s.slot i).setup.pace then s.setLegState i l (.paced (s.slot i).setup.pace)
  else (s.setLegState i l .armed).evaluate i

/-- The chain ends: the slot is DONE, its pin and its credits are given up, and the CHAIN-END report and event follow (R46, R64). -/
def State.chainEnds (s : State) (i : SlotIx) (l : LegIx) : State :=
  (((s.updSlot i fun x => { x with standing := .done, credits := 0, legRun := false, holdRequested := false }).unpin l).report
    (.chainEnd i l (s.slot i).credits)).pass .chainEnd i

/-- The slot enters the leg n that NEXT named, from leg l with record r, and goes to HELD, PACED or ARMED (R31, R66). -/
def State.entersNext (s : State) (i : SlotIx) (l : LegIx) (r : LegRecord) (n : LegIx) (rn : LegRecord) (atCommit : Bool) : State :=
  let t := ((s.updSlot i fun x => x.entered n rn .armed).unpin l).pin n
  if r.endHold || (s.slot i).holdRequested then t.becomeHeld i n else t.goOn i n atCommit

/-- Step 3 of leg-end processing: NEXT is read from the leg's entry as it stands (R64–R66). -/
def State.legEndStep3 (s : State) (i : SlotIx) (l : LegIx) (r : LegRecord) (atCommit : Bool) : State :=
  match r.next with
  | none => s.chainEnds i l
  | some n =>
    match (s.leg n).record with
    | some rn =>
      if s.legCheck (s.slot i).setup.port n then s.entersNext i l r n rn atCommit else s.enterFaulted i l .leg 0
    | none => s.enterFaulted i l .leg 0

/-- Step 2 of leg-end processing: the LEG-END report where END-REPORT asks for it, and the LEG-END event (R63); then step 3. -/
def State.legEndStep2 (s : State) (i : SlotIx) (l : LegIx) (r : LegRecord) (atCommit : Bool) : State :=
  let t :=
    if r.endReport then
      s.report (.legEnd i l r.count (if r.digest then some (finalDigest (s.slot i).digest) else none))
    else s
  (t.pass .legEnd i).legEndStep3 i l r atCommit

/-- The digest a leg expects and does not have, where step 1 fails: EXPECT and the final digest (R62). -/
def digestMismatch? (r : LegRecord) (acc : Word) : Option (Word × Word) :=
  match r.digest, r.expect with
  | true, some e => if e = finalDigest acc then none else some (e, finalDigest acc)
  | _, _ => none

/-- Leg-end processing from step 1: the digest check, then step 2 (R62). -/
def State.legEndStep1 (s : State) (i : SlotIx) (l : LegIx) (r : LegRecord) : State :=
  match digestMismatch? r (s.slot i).digest with
  | some (e, a) => s.enterFaulted i l (.digest e a) 0
  | none => s.legEndStep2 i l r true

/-! ## The burst commit (R59) -/

/-- Step 1 of the commit: the port words of the burst are made final (R60). -/
def State.settleCommit (s : State) (l : LegIx) : State :=
  match s.legPort l with
  | some p => s.updPort p Port.committedWords
  | none => s

/-- Steps 2 to 4 of the commit: the skips, ELEMENT 0, REMAINING lowered (R11, R59). -/
def Slot.burstDone (x : Slot) (r : LegRecord) : Slot :=
  { x with src := r.srcSkipped x.src, dst := r.dstSkipped x.dst, element := 0, remaining := x.remaining - 1 }

/-- Step 5 of the commit: a REMAINING that reaches MARK appends the MARK report and passes the MARK event (R61). -/
def State.markStep (s : State) (i : SlotIx) (l : LegIx) (r : LegRecord) : State :=
  if 1 ≤ r.mark ∧ (s.slot i).remaining = r.mark then (s.report (.mark i l r.mark)).pass .mark i else s

/-- Steps 7 and 8 of the commit: leg-end processing at REMAINING 0, else a requested hold, else PACED or ARMED (R41, R59). -/
def State.afterBurst (s : State) (i : SlotIx) (l : LegIx) (r : LegRecord) : State :=
  if (s.slot i).remaining = 0 then s.legEndStep1 i l r
  else if (s.slot i).holdRequested then s.becomeHeld i l
  else s.goOn i l true

/-- The burst commit of slot i in leg l, steps 1 to 8; the snapshot is discarded and the mover stands at its release (R59). -/
def State.commit (s : State) (i : SlotIx) (l : LegIx) (r : LegRecord) : State :=
  State.afterBurst
    (((((s.settleCommit l).updSlot i fun x => x.burstDone r).setMover (.releasing 0 0)).markStep i l r).pass .burstEnd i) i l r

/-! ## Cancelling (R44, R45) -/

/-- The slot's fields after it becomes IDLE; the context keeps its values (R44). -/
def Slot.cancelled (x : Slot) : Slot :=
  { x with standing := .idle, credits := 0, holdRequested := false, legRun := false }

/-- A slot with a current leg becomes IDLE: the pin is given up and the CANCELLED report carries the leg, REMAINING and the element
index at which the burst was abandoned (R44). -/
def State.idleFrom (s : State) (i : SlotIx) (l : LegIx) (element : Nat) : State :=
  ((s.updSlot i Slot.cancelled).unpin l).report (.cancelled i (some l) (s.slot i).remaining element)

/-- A DONE slot becomes IDLE (R44). -/
def State.idleFromDone (s : State) (i : SlotIx) : State :=
  (s.updSlot i Slot.cancelled).report (.cancelled i none 0 0)

/-- The snapshot a SUSPENDED slot has on the stack (R49). -/
def State.stackSnapshot (s : State) (i : SlotIx) : Option Snapshot :=
  (s.arb.stack.find? fun e => decide (e.slot = i)).map (·.snapshot)

/-- The cancel of a SUSPENDED slot in leg l: removed from the stack wherever it stands, rolled back, IDLE (R44, R85). -/
def State.cancelSuspended (s : State) (i : SlotIx) (l : LegIx) : State :=
  let t :=
    match s.stackSnapshot i with
    | some snap => s.rollback i l snap
    | none => s
  (t.setStack (s.arb.stack.filter fun e => decide (e.slot ≠ i))).idleFrom i l (s.slot i).element

/-- The cancel of a slot that is not ACTIVE, in the state it stands in (R44); an IDLE slot is left as it is. -/
def State.cancelAtOnce (s : State) (i : SlotIx) : State :=
  match (s.slot i).standing with
  | .idle => s
  | .done => s.idleFromDone i
  | .inLeg l .suspended => s.cancelSuspended i l
  | .inLeg l _ => s.idleFrom i l 0

/-- The cancel of a slot that was ACTIVE when it was taken acts, in the state its element left, and is answered (R45). With no such cancel
waiting nothing changes. -/
def State.cancelWaiting (s : State) : State :=
  match s.link.executing with
  | some e =>
    match e.waits with
    | .cancel i => (s.cancelAtOnce i).answer e.request (Reply.bare .ok)
    | _ => s
  | none => s

/-- The end of a release: a cancel that still waits acts first, and then the arbiter selects without its slot (R45, R81). -/
def State.release (s : State) : State := s.cancelWaiting.select

/-- The release of a burst's end, with a waiting cancel and the selection each in this step at 0 and otherwise at the point named; the
cancel comes at the latest with the selection (R45, R84, R94, R110). -/
def State.releaseAt (s : State) (cancelAt selectAt : Nat) : State :=
  if selectAt = 0 then s.release
  else (if cancelAt = 0 then s.cancelWaiting else s).setMover (.releasing cancelAt selectAt)

/-- A point is passed, one of those before each entry that the trigger table meets and after the last (R111): a waiting cancel or the
selection acts where its turn has come. With no release outstanding nothing changes. -/
def State.passPoint (s : State) : State :=
  match s.arb.mover with
  | .releasing c n =>
    if n ≤ 1 then s.release
    else (if c ≤ 1 then s.cancelWaiting else s).setMover (.releasing (c - 1) (n - 1))
  | _ => s

/-! ## ENGINE-RESET (R193) -/

/-- A rollback of the burst of every slot on the stack (R68). -/
def State.rollbackStack (s : State) : List Suspended → State
  | [] => s
  | e :: rest =>
    match (s.slot e.slot).standing with
    | .inLeg l _ => (s.rollback e.slot l e.snapshot).rollbackStack rest
    | _ => s.rollbackStack rest

/-- Step 2 of ENGINE-RESET: the burst of the ACTIVE slot, unless it committed or faulted in step 1, and of every SUSPENDED slot is
rolled back (R68, R193). -/
def State.rollbackAll (s : State) : State :=
  match s.arb.mover with
  | .busy i snap =>
    match (s.slot i).standing with
    | .inLeg l .active => (s.rollback i l snap).rollbackStack s.arb.stack
    | _ => s.rollbackStack s.arb.stack
  | _ => s.rollbackStack s.arb.stack

/-- A port after ENGINE-RESET: FIFO emptied, counts 0, ENABLE clear; the rest of a word under way is driven as zeros (R140). -/
def Port.engineReset (p : Port) : Port :=
  { p with enable := false, fifo := [], tentative := 0, staged := 0, driven := p.driven.map fun _ => 0 }

/-- Step 3 of ENGINE-RESET: the blocks of the transfer side (R193). -/
def State.resetBlocks (s : State) : State :=
  { s with
    slots := Vector.replicate 16 Slot.initial
    legs := s.legs.map fun e => { e with pins := 0 }
    arb := Arbiter.initial
    ports := s.ports.map Port.engineReset
    bufArb := BufArbiter.initial
    events := [] }

/-- The report queue after a reset: RESET-DONE with its cause as SEQ 0 (R171, R172). -/
def ReportQueue.afterReset (cause : ResetCause) : ReportQueue := ReportQueue.initial.take (.resetDone cause)

/-- Steps 2 to 5 of ENGINE-RESET (R193): the rollbacks, the blocks, the reply as the cache's only entry, and the report queue. -/
def State.engineReset (s : State) (r : Request) : State :=
  let t := s.rollbackAll.resetBlocks
  ((t.updLink fun k => { k with cache := [] }).answer r (Reply.bare .ok)).updReports fun _ => ReportQueue.afterReset .request

/-! ## The resume of a FAULTED slot (R99–R102) -/

/-- What a resume comes to: the state it leaves, a refusal with LEG, or a stop at a leg entry that holds no record. -/
inductive Resumed where
  | done (s : State)
  | refused
  | stuck (leg : LegIx)

/-- The resume of slot i, FAULTED in leg l with the fault's cause (R99–R102). The old record goes with the state it belongs to; every
outcome of leg-end processing writes the slot's next state. -/
def State.resumeFaulted (s : State) (i : SlotIx) (l : LegIx) (cause : FaultCause) : Resumed :=
  match cause with
  | .fenceRead _ | .fenceWrite _ | .parity _ =>
    if s.legCheck (s.slot i).setup.port l then .done ((s.setLegState i l .armed).evaluate i) else .refused
  | .digest _ _ =>
    match (s.leg l).record with
    | some r => .done (s.legEndStep2 i l r false)
    | none => .stuck l
  | .leg =>
    match (s.leg l).record with
    | some r => .done (s.legEndStep3 i l r false)
    | none => .stuck l

end Sys2Proof.Machine
end

