-- ==== Sys2Proof/Machine/BufferRequests.lean ====
section
/-! DEFINITION. The meanings of the requests the buffer memory owns (R150–R156), and of the granted host block (R146). -/

namespace Sys2Proof.Machine

/-- The words of a BUF-WRITE body after its address (R153, R201). -/
def blockWords (body : List Byte) : List Word :=
  (List.range ((body.length - 2) / 4)).map fun k => wordAt body (2 + 4 * k)

/-- The start address of a host block's body (R201). -/
def blockStart (body : List Byte) : Addr := BitVec.ofNat 16 (fieldAt body 0 2)

/-- The block of n words from an address number ends by 65535 (R153, R154). -/
def blockInRange (start n : Nat) : Bool := decide (start + n ≤ 65536)

/-- A host block asks for its grant, and its request holds the engine (R146, R147). -/
def State.startBlock (s : State) (r : Request) (order : AskOrder) : State := (s.blockAsks order).holdEngine r .hostBlock

/-- BUF_WRITE (R153): the range check, then the ask for a grant. -/
def execBufWrite (order : AskOrder) (s : State) : Host.Outcome State Fault Refusal :=
  s.serve .bufWrite fun r t =>
    if blockInRange (fieldAt r.body 0 2) (blockWords r.body).length then .next (t.startBlock r order)
    else .next (t.answer r (Reply.bare .range))

/-- BUF_READ (R154): COUNT and the range check, then the ask for a grant. -/
def execBufRead (order : AskOrder) (s : State) : Host.Outcome State Fault Refusal :=
  s.serve .bufRead fun r t =>
    if 1 ≤ fieldAt r.body 2 1 ∧ fieldAt r.body 2 1 ≤ Config.blockCap then
      if blockInRange (fieldAt r.body 0 2) (fieldAt r.body 2 1) then .next (t.startBlock r order)
      else .next (t.answer r (Reply.bare .range))
    else .next (t.answer r (Reply.bare .field))

/-- A granted BUF-WRITE block (R153): all its words are written, or none where the fences deny the host one; the reply then carries the
lowest denied address. -/
def State.runWriteBlock (s : State) (r : Request) : State :=
  match (blockAddrs (blockStart r.body) (blockWords r.body).length).find? fun a => !hostMayWrite s.fences a with
  | some a => s.answer r { status := .fence, data := leBytes 2 a.toNat }
  | none => (s.writeWords (blockStart r.body) (blockWords r.body)).answer r (Reply.bare .ok)

/-- The value a good word holds; a damaged one returns none (R143). -/
def BufWord.value? : BufWord → Option Word
  | .good v => some v
  | .damaged => none

/-- A granted BUF-READ block (R154): the words in address order, or PARITY with the lowest damaged address. The fence check comes first and
denies no host read (R149). -/
def State.runReadBlock (s : State) (r : Request) : State :=
  let addrs := blockAddrs (blockStart r.body) (fieldAt r.body 2 1)
  match addrs.find? fun a => !hostMayRead s.fences a with
  | some a => s.answer r { status := .fence, data := leBytes 2 a.toNat }
  | none =>
    match addrs.find? fun a => decide (s.word a = .damaged) with
    | some a => s.answer r { status := .parity, data := leBytes 2 a.toNat }
    | none => s.answer r (Reply.okWith (addrs.flatMap fun a => optWordBytes (s.word a).value?))

/-- A granted host block runs whole (R146): BUF-WRITE or BUF-READ by the request's kind. -/
def State.runBlock (s : State) (r : Request) : State :=
  match r.kind with
  | .bufWrite => s.runWriteBlock r
  | _ => s.runReadBlock r

/-- HOST_BLOCK_GRANT (R146): the block that holds the buffer grant is checked and runs whole, its reply is queued, and the grant goes to a
waiting element. -/
def execHostBlockGrant (s : State) : Host.Outcome State Fault Refusal :=
  s.whenRunning fun t =>
    match t.link.executing with
    | some e =>
      if e.waits = .hostBlock ∧ t.bufArb.grant = some .link then
        let u := t.runBlock e.request
        { u with bufArb := u.bufArb.blockDone u.fences }
      else t
    | none => t

/-- FENCE_SET (R150): the index, then the field checks; the entry is written whole, and an element granted before keeps the old table. -/
def execFenceSet (s : State) : Host.Outcome State Fault Refusal :=
  s.serveNow .fenceSet fun b t =>
    match index? 8 (fieldAt b 0 1) with
    | none => (t, Reply.bare .range)
    | some k =>
      match fence? b with
      | none => (t, Reply.bare .field)
      | some f => (t.takeFence k f, Reply.bare .ok)

/-- FENCE_READ (R152): the five fields of an entry; nothing changes. -/
def execFenceRead (s : State) : Host.Outcome State Fault Refusal :=
  s.serveNow .fenceRead fun b t =>
    match index? 8 (fieldAt b 0 1) with
    | none => (t, Reply.bare .range)
    | some k => (t, Reply.okWith (t.fence k).bytes)

end Sys2Proof.Machine
end

