-- ==== Sys2Proof/Machine/LegRequests.lean ====
section
/-! DEFINITION. The meanings of the requests the leg store owns (R14–R19). -/

namespace Sys2Proof.Machine

/-- LEG_LOAD (R14): the index, the record check of R15, then the pin count; the record replaces any the entry held. -/
def execLegLoad (s : State) : Host.Outcome State Fault Refusal :=
  s.serveNow .legLoad fun b t =>
    match index? 512 (fieldAt b 0 2) with
    | none => (t, Reply.bare .range)
    | some l =>
      match (RawLeg.ofBytes (b.drop 2)).checked? with
      | none => (t, Reply.bare .field)
      | some r =>
        if (t.leg l).pins = 0 then (t.updLeg l fun e => { e with record := some r }, Reply.bare .ok)
        else (t, Reply.bare .inUse)

/-- The reply fields of LEG-READ: the status, the pin count, and the record of a LOADED entry (R17, R198). -/
def LegEntry.bytes (e : LegEntry) : List Byte :=
  match e.record with
  | none => leBytes 1 0 ++ leBytes 1 e.pins
  | some r => leBytes 1 1 ++ leBytes 1 e.pins ++ r.bytes

/-- LEG_READ (R17): an entry's status, pin count and record; nothing changes. -/
def execLegRead (s : State) : Host.Outcome State Fault Refusal :=
  s.serveNow .legRead fun b t =>
    match index? 512 (fieldAt b 0 2) with
    | none => (t, Reply.bare .range)
    | some l => (t, Reply.okWith (t.leg l).bytes)

/-- USERS: the number of slots whose current leg is the leg (R18). -/
def State.users (s : State) (l : LegIx) : Nat :=
  ((List.finRange 16).filter fun i => decide ((s.slot i).currentLeg = some l)).length

/-- LEG_LINK (R18): the index, the new NEXT, then the entry's status; NEXT alone is replaced, and the reply carries USERS. -/
def execLegLink (s : State) : Host.Outcome State Fault Refusal :=
  s.serveNow .legLink fun b t =>
    match index? 512 (fieldAt b 0 2) with
    | none => (t, Reply.bare .range)
    | some l =>
      match legOrNone? (fieldAt b 2 2) with
      | none => (t, Reply.bare .field)
      | some n =>
        match (t.leg l).record with
        | none => (t, Reply.bare .state)
        | some r =>
          (t.updLeg l fun e => { e with record := some { r with next := n } }, Reply.okWith (leBytes 1 (t.users l)))

end Sys2Proof.Machine
end

