-- ==== Sys2Proof/WellFormed.lean ====
section
/-! DEFINITION. The check a command must pass to be a command of the table. The operand types carry every range but
two: LENGTH_ERROR is the delivery of a LEN byte that is NOT 2–250 (R176), and start-up writes 65,536 words (R144). -/

namespace Sys2Proof

/-- A LEN byte the receiver refuses: 0, 1 or 251–255 (R176). -/
def badLen (b : Byte) : Bool :=
  decide (b.toNat < Config.lenMin) || decide (Config.lenMax < b.toNat)

/-- A command of the table: LENGTH_ERROR carries a refused LEN byte, and UPSET at most the 65,536 words of start-up; every other operand is
in range by its type. -/
def WellFormed : Instr → Bool
  | .lengthError b => badLen b
  | .upset u => decide (u.written ≤ Config.bufWords)
  | .powerReset | .resetRelease _ | .startUpEnd | .frameReceived _ | .gapTimeout | .lineBreak
  | .hello | .linkStatus | .engineReset | .bufWrite _ | .bufRead _ | .hostBlockGrant | .fenceSet | .fenceRead
  | .legLoad | .legRead | .legLink | .slotSetup | .slotArm | .slotStart | .slotHold | .slotResume | .slotCancel
  | .slotQuery | .trigSet | .trigRead | .portSetup | .portQuery | .reportAck | .reportReplay | .reportGate
  | .transmitReply | .transmitReport | .element _ | .paceExpiry _ | .wordArrival _ _ | .wordTake _
  | .triggerEvent | .byteDelivered _ | .frameSent | .lineHighAfterBreak => true

end Sys2Proof
end

