-- ==== Sys2Proof/Machine/LineCommands.lean ====
section
/-! DEFINITION. The receiver of the host link: the bytes of a frame (R176), the frame check (R177), the sorting of a good frame
(R180–R183), the gap timer (R178) and the break (R179). -/

namespace Sys2Proof.Machine

/-! ## Sorting a good frame (R180–R183) -/

/-- The requests whose tags are in use: those of the inbox and the executing request (R182). -/
def Link.inUse (k : Link) : List Request :=
  (match k.executing with
    | some e => [e.request]
    | none => [])
  ++ k.inbox

/-- Check 4: refused with FULL at 8 inbox requests, appended to the inbox otherwise (R183). -/
def State.sortInbox (s : State) (r : Request) : State :=
  if s.link.inbox.length < Config.inboxCap then s.updLink fun k => { k with inbox := k.inbox ++ [r] }
  else (s.count fun c => { c with fullRejects := bump c.fullRejects }).immediate ((Reply.bare .full).frame r.kind r.tag)

/-- Check 3: a retransmission of a request in use is discarded and counted, another frame with a tag in use is refused with TAG-BUSY
(R182); then check 4. -/
def State.sortInUse (s : State) (r : Request) : State :=
  match s.link.inUse.find? fun q => decide (q.tag = r.tag) with
  | some q =>
    if q.crc = r.crc then s.count fun c => { c with duplicates := bump c.duplicates }
    else s.immediate ((Reply.bare .tagBusy).frame r.kind r.tag)
  | none => s.sortInbox r

/-- Check 2: a cached request with the frame's TAG and CRC is answered from the cache and counted; with another CRC its entry is removed
and the frame goes on to check 3 (R181). -/
def State.sortCache (s : State) (r : Request) : State :=
  match s.link.cache.find? fun e => decide (e.tag = r.tag) with
  | some e =>
    if e.crc = r.crc then (s.count fun c => { c with replays := bump c.replays }).immediate e.reply
    else
      (s.updLink fun k => { k with cache := k.cache.filter fun e => decide (e.tag ≠ r.tag) }).sortInUse r
  | none => s.sortInUse r

/-- The sorting of a good frame; check 1 answers a KIND that is not a request code with the immediate reply KIND (R180). -/
def State.sortFrame (s : State) (kind tag : Byte) (body : List Byte) (crc : Crc) : State :=
  match ReqKind.ofCode? kind with
  | none => s.immediate (kindFrame tag)
  | some k => s.sortCache { kind := k, tag := tag, body := body, crc := crc }

/-- The frame check and what follows it (R177): LEN and the bytes kept, against the CRC received low byte first. -/
def State.checkFrame (s : State) (len : Byte) (kept : List Byte) (low high : Byte) : State :=
  let crc : Crc := BitVec.ofNat 16 (leNat [low, high])
  if frameCrc (len :: kept) = crc then
    match kept with
    | kind :: tag :: body => s.sortFrame kind tag body crc
    | _ => s
  else s.count fun c => { c with crcErrors := bump c.crcErrors }

/-! ## The receiver (R176) -/

/-- The receiver enters HUNT: a partial frame is dropped and the gap timer stops (R178). -/
def State.toHunt (s : State) : State := s.updLink fun k => { k with receiver := .hunt, gapLeft := none }

/-- The receiver keeps a byte of a frame and restarts the gap timer (R176, R178). -/
def State.keep (s : State) (r : Receiver) : State :=
  s.updLink fun k => { k with receiver := r, gapLeft := some Config.gapMicros }

/-- A delivered byte is taken according to the receiver's state: the table of R176. -/
def State.deliver (s : State) (b : Byte) : State :=
  match s.link.receiver with
  | .hunt => if b = Config.sync then s.keep .length else s
  | .length =>
    if badLen b then (s.count fun c => { c with lengthErrors := bump c.lengthErrors }).toHunt else s.keep (.body b [])
  | .body len kept =>
    if len.toNat ≤ kept.length + 1 then s.keep (.check len (kept ++ [b]) none) else s.keep (.body len (kept ++ [b]))
  | .check len kept none => s.keep (.check len kept (some b))
  | .check len kept (some low) => s.toHunt.checkFrame len kept low b

/-- The receiver takes characters: it is not waiting for the line to be high after a break (R179). -/
def State.deliverUnlessBreak (s : State) (b : Byte) : State := if s.link.breakHeld then s else s.deliver b

/-! ## The meanings -/

/-- BYTE_DELIVERED (R176): one received byte reaches the receiver's state machine. -/
def execByteDelivered (b : Byte) (s : State) : Host.Outcome State Fault Refusal := s.whenRunning (·.deliverUnlessBreak b)

/-- The receiver awaits the second CRC byte of a frame (R176). -/
def Receiver.awaitsLastByte : Receiver → Bool
  | .check _ _ (some _) => true
  | _ => false

/-- FRAME_RECEIVED (R177): the second CRC byte of a frame is received. -/
def execFrameReceived (b : Byte) (s : State) : Host.Outcome State Fault Refusal :=
  s.whenRunning fun t => if t.link.receiver.awaitsLastByte then t.deliverUnlessBreak b else t

/-- LENGTH_ERROR (R176): a refused LEN byte is received. -/
def execLengthError (b : Byte) (s : State) : Host.Outcome State Fault Refusal :=
  s.whenRunning fun t => if t.link.receiver = .length ∧ badLen b = true then t.deliverUnlessBreak b else t

/-- GAP_TIMEOUT (R178): the gap timer expires inside a frame. -/
def execGapTimeout (s : State) : Host.Outcome State Fault Refusal :=
  s.whenRunning fun t =>
    if t.link.receiver = .hunt then t else (t.count fun c => { c with gapTimeouts := bump c.gapTimeouts }).toHunt

/-- BREAK (R179): counted once however long the line stays low; the receiver enters HUNT and takes no character until the line has
been high. -/
def execLineBreak (s : State) : Host.Outcome State Fault Refusal :=
  s.whenRunning fun t =>
    if t.link.breakHeld then t
    else ((t.count fun c => { c with breaks := bump c.breaks }).toHunt).updLink fun k => { k with breakHeld := true }

/-- LINE_HIGH_AFTER_BREAK (R179): the receiver takes characters again. -/
def execLineHighAfterBreak (s : State) : Host.Outcome State Fault Refusal :=
  s.whenRunning fun t => t.updLink fun k => { k with breakHeld := false }

end Sys2Proof.Machine
end

