-- ==== Sys2Proof/Machine/LinkRequests.lean ====
section
/-! DEFINITION. The meanings of the requests the host link owns: HELLO, LINK-STATUS and ENGINE-RESET (R191–R194). -/

namespace Sys2Proof.Machine

/-- HELLO (R191): the identification values and the rate code; nothing changes. -/
def execHello (s : State) : Host.Outcome State Fault Refusal :=
  s.serveNow .hello fun _ t => (t, Reply.okWith (helloBytes t.link.rate))

/-- LINK_STATUS (R192): the eight counters, which CLEAR zeroes after the reply has taken them. -/
def execLinkStatus (s : State) : Host.Outcome State Fault Refusal :=
  s.serveNow .linkStatus fun b t =>
    (if (byteAt b 0).getLsbD 0 then t.count fun _ => Counters.initial else t, Reply.okWith t.link.counters.bytes)

/-- ENGINE_RESET (R193): with a slot ACTIVE it waits for the element in flight (step 1); otherwise steps 2 to 5 follow at once. -/
def execEngineReset (s : State) : Host.Outcome State Fault Refusal :=
  s.serve .engineReset fun r t =>
    match t.arb.mover with
    | .busy _ _ => .next (t.holdEngine r .engineReset)
    | _ => .next (t.engineReset r)

end Sys2Proof.Machine
end

