-- ==== Sys2Proof/Machine/MoverCommands.lean ====
section
/-! DEFINITION. The meanings of ELEMENT (R52–R61), PACE_EXPIRY (R39) and UPSET (R142), and the passing of time. -/

namespace Sys2Proof.Machine

/-! ## The six steps of an element (R52) -/

/-- What the steps of an element come to. -/
inductive ElementResult where
  /-- the six steps were taken -/
  | moved (s : State)
  /-- a check or the read failed, and the later steps were not taken -/
  | failed (cause : FaultCause)
  /-- a state the spec's laws rule out -/
  | stuck (f : Fault)

/-- Step 1: the source fence check (R53). -/
def sourceDenied? (fences : Vector Fence 8) (r : LegRecord) (x : Slot) : Option FaultCause :=
  match r.src with
  | .buffer _ => if moverMayRead fences x.src then none else some (.fenceRead x.src)
  | _ => none

/-- Step 2: the destination fence check (R53). -/
def destDenied? (fences : Vector Fence 8) (r : LegRecord) (x : Slot) : Option FaultCause :=
  match r.dst with
  | .buffer _ => if moverMayWrite fences x.dst then none else some (.fenceWrite x.dst)
  | _ => none

/-- What step 3 obtains: a word and the state after the read, or why none. -/
inductive ReadResult where
  | word (w : Word) (s : State)
  | failed (cause : FaultCause)
  | stuck (f : Fault)

/-- The word a PORT read gives: the oldest word of an inbound FIFO not yet read tentatively (R54, R128). -/
def Port.nextTentative? (p : Port) : Option Word :=
  match p.direction with
  | .inward => p.fifo[p.tentative]?
  | .outward => none

/-- Step 3: the word the element moves (R54). -/
def State.elementRead (s : State) (r : LegRecord) (x : Slot) : ReadResult :=
  match r.src with
  | .buffer _ =>
    match s.word x.src with
    | .good v => .word v s
    | .damaged => .failed (.parity x.src)
  | .port p =>
    match (s.port p).nextTentative? with
    | some w => .word w (s.updPort p fun q => { q with tentative := q.tentative + 1 })
    | none => .stuck (.noPortWord p)
  | .const v => .word v s

/-- A PORT write finds a free place at an outbound port (R55). -/
def Port.hasPlace (p : Port) : Bool := decide (p.direction = .outward) && decide (p.fifo.length < Config.fifoCap)

/-- Step 4: the word is put at the destination (R55). -/
def State.elementWrite (s : State) (r : LegRecord) (x : Slot) (w : Word) : Except Fault State :=
  match r.dst with
  | .buffer _ => .ok (s.writeWord x.dst w)
  | .port p =>
    if (s.port p).hasPlace then .ok (s.updPort p fun q => { q with fifo := q.fifo ++ [w], staged := q.staged + 1 })
    else .error (.noPortPlace p)

/-- Steps 5 and 6 at the slot: the digest where the leg asks for it, then the address steps (R56). -/
def Slot.stepped (x : Slot) (r : LegRecord) (w : Word) : Slot :=
  { x with
    digest := if r.digest then digestWord x.digest w else x.digest
    src := r.srcStepped x.src
    dst := r.dstStepped x.dst }

/-- The six steps of the element of slot i in a leg with record r, under a fence table (R52). -/
def State.elementSteps (s : State) (fences : Vector Fence 8) (i : SlotIx) (r : LegRecord) : ElementResult :=
  match sourceDenied? fences r (s.slot i) with
  | some c => .failed c
  | none =>
    match destDenied? fences r (s.slot i) with
    | some c => .failed c
    | none =>
      match s.elementRead r (s.slot i) with
      | .failed c => .failed c
      | .stuck f => .stuck f
      | .word w t =>
        match t.elementWrite r (s.slot i) w with
        | .error f => .stuck f
        | .ok u => .moved (u.updSlot i fun x => x.stepped r w)

/-! ## The completion (R57) -/

/-- The buffer arbiter's part of a completion, where the leg needed a grant (R146). -/
def State.giveBackGrant (s : State) (r : LegRecord) : State :=
  if r.usesBuffer then { s with bufArb := s.bufArb.elementDone } else s

/-- The end of a burst's life by commit or fault: a waiting ENGINE-RESET runs in the same step (R193); otherwise the release comes. -/
def State.endBurst (s : State) (cancelAt selectAt : Nat) : State :=
  match s.link.executing with
  | some e =>
    match e.waits with
    | .engineReset => s.engineReset e.request
    | _ => s.releaseAt cancelAt selectAt
  | none => s.releaseAt cancelAt selectAt

/-- A failed element: the rollback, the entry to FAULTED with the failing element's index, and the end of the burst (R57, R92). -/
def State.elementFails (s : State) (cancelAt selectAt : Nat) (i : SlotIx) (l : LegIx) (snap : Snapshot) (c : FaultCause) : State :=
  (((s.rollback i l snap).setMover (.releasing 0 0)).enterFaulted i l c (s.slot i).element).endBurst cancelAt selectAt

/-- The cancel of the ACTIVE slot at the completion of an element that is not the last: the rollback, IDLE with the ELEMENT reached, the
reply, and the release (R45). -/
def State.cancelActive (s : State) (selectAt : Nat) (i : SlotIx) (l : LegIx) (snap : Snapshot) (r : Request) : State :=
  ((((s.rollback i l snap).setMover (.releasing 0 0)).idleFrom i l (s.slot i).element).answer r (Reply.bare .ok)).releaseAt 0 selectAt

/-- The completion of an element that is not the last of its burst, after ELEMENT has risen (R57): a waiting cancel of the slot, a
waiting ENGINE-RESET, or the preemption check. -/
def State.midBurst (s : State) (selectAt : Nat) (i : SlotIx) (l : LegIx) (snap : Snapshot) : State :=
  match s.link.executing with
  | some e =>
    match e.waits with
    | .cancel j => if j = i then s.cancelActive selectAt i l snap e.request else s.preemptionCheck i l snap
    | .engineReset => s.engineReset e.request
    | .hostBlock => s.preemptionCheck i l snap
  | none => s.preemptionCheck i l snap

/-- The completion of an element whose six steps were taken (R57). -/
def State.elementCompletes (s : State) (cancelAt selectAt : Nat) (i : SlotIx) (l : LegIx) (r : LegRecord) (snap : Snapshot) : State :=
  if (s.slot i).element + 1 < r.burst then (s.updSlot i fun x => { x with element := x.element + 1 }).midBurst selectAt i l snap
  else (s.commit i l r).endBurst cancelAt selectAt

/-- The element in flight of slot i runs and completes (R52). -/
def State.runElement (s : State) (order : ElementOrder) (i : SlotIx) (l : LegIx) (r : LegRecord) (snap : Snapshot) :
    Host.Outcome State Fault Refusal :=
  match s.elementSteps (s.elementFences order.setsAfterGrant) i r with
  | .moved t => .next ((t.giveBackGrant r).elementCompletes order.cancelAt order.selectAt i l r snap)
  | .failed c => .next ((s.giveBackGrant r).elementFails order.cancelAt order.selectAt i l snap c)
  | .stuck f => .fault f

/-- The element in flight waits for its buffer grant: its leg needs one and a host block holds it (R52, R146). -/
def State.elementWaits (s : State) (r : LegRecord) : Bool := r.usesBuffer && decide (s.bufArb.grant = some .link)

/-- ELEMENT (R52): the element in flight; while it waits for its grant it has made no check and no access, and nothing changes. Where a
release is outstanding the next element comes into flight by it, and it is made now if no point came before (R84). With the mover
idle nothing changes. -/
def execElement (order : ElementOrder) (s : State) : Host.Outcome State Fault Refusal :=
  if s.phase = .running then
    match s.arb.mover with
    | .busy i snap =>
      match (s.slot i).standing with
      | .inLeg l .active =>
        match (s.leg l).record with
        | some r => if s.elementWaits r then .next s else s.runElement order i l r snap
        | none => .fault (.freeLeg l)
      | _ => .fault (.moverSlot i)
    | .releasing _ _ => .next s.release
    | .idle => .next s
  else .next s

/-! ## Pace expiry, upset, time -/

/-- The expiry of the pace timer of a PACED slot: ARMED, with eligibility evaluated (R39). -/
def State.paceExpires (s : State) (i : SlotIx) : State :=
  match (s.slot i).standing with
  | .inLeg l (.paced _) => (s.setLegState i l .armed).evaluate i
  | _ => s

/-- PACE_EXPIRY (R39): a timer runs only while its slot is PACED. -/
def execPaceExpiry (i : SlotIx) (s : State) : Host.Outcome State Fault Refusal := s.whenRunning (·.paceExpires i)

/-- Start-up has come to `written` words, where it had written `before`: the words between are zero (R144). It never goes back, and it
ends at the last word. -/
def State.startUpReaches (s : State) (before written : Nat) : State :=
  { s with
    phase := .startUp (max before (min written Config.bufWords))
    mem := memZero s.mem before (max before (min written Config.bufWords)) }

/-- UPSET (R142): the word's DAMAGED mark is set and its VALUE is lost; it can come at any time. During start-up the words that have been
written by then are zero, and a word still to be written loses the mark again when it is (R144). -/
def execUpset (upset : Upset) (s : State) : Host.Outcome State Fault Refusal :=
  match s.phase with
  | .startUp before => .next ((s.startUpReaches before upset.written).setWord upset.addr .damaged)
  | _ => .next (s.setWord upset.addr .damaged)

/-- One microsecond of a slot's pace timer, while it runs (R39). -/
def Slot.tick (x : Slot) : Slot :=
  match x.standing with
  | .inLeg l (.paced n) => { x with standing := .inLeg l (.paced (n - 1)) }
  | _ => x

/-- One microsecond passes with no command waiting: the running pace timers and the gap timer count down (R39, R178). What an expiry does
is the table's PACE_EXPIRY and GAP_TIMEOUT (notes/assumptions/7.md). -/
def State.tick (s : State) : State :=
  { s with
    slots := s.slots.map Slot.tick
    link := { s.link with gapLeft := s.link.gapLeft.map fun n => n - 1 } }

end Sys2Proof.Machine
end

