-- ==== Sys2Proof/Machine/PortCommands.lean ====
section
/-! DEFINITION. The meanings of the stream ports' requests (R125, R137, R138) and of the peripheral's two events (R127, R129). -/

namespace Sys2Proof.Machine

/-- A port after PORT-SETUP (R125): the three setup values, an empty FIFO, the alarms kept; the rest of a word under way is driven as
zeros, and SDn is an input at an inbound port (R121). The spec does not say what SDn carries in the rest of a frame that was under way at an
inbound port set to OUT; the model has nothing driven until the next take, its own choice (notes/assumptions/19.md). -/
def Port.setUp (p : Port) (d : Direction) (threshold : Nat) (enable : Bool) : Port :=
  { p with
    direction := d, threshold := threshold, enable := enable, fifo := [], tentative := 0, staged := 0
    driven := match d with
      | .inward => none
      | .outward => p.driven.map fun _ => 0 }

/-- A slot bound to the port is in ARMED, READY, ACTIVE, SUSPENDED, PACED or HELD (R125, check 3). -/
def State.portInUse (s : State) (p : PortIx) : Bool :=
  (List.finRange 16).any fun i => (s.slot i).boundTo p && (s.slot i).keepsPort

/-- PORT_SETUP (R125): the port number, the fields, then the bound slot; a rise of the condition is signalled. -/
def execPortSetup (s : State) : Host.Outcome State Fault Refusal :=
  s.serveNow .portSetup fun b t =>
    match index? 8 (fieldAt b 0 1) with
    | none => (t, Reply.bare .range)
    | some p =>
      match Direction.ofCode? (fieldAt b 1 1) with
      | none => (t, Reply.bare .field)
      | some d =>
        if 1 ≤ fieldAt b 2 1 ∧ fieldAt b 2 1 ≤ Config.fifoCap then
          if t.portInUse p then (t, Reply.bare .inUse)
          else
            ((t.updPort p fun x => x.setUp d (fieldAt b 2 1) ((byteAt b 3).getLsbD 0)).signal p (t.port p).condition,
              Reply.bare .ok)
        else (t, Reply.bare .field)

/-- A port with its alarm flags and counters cleared (R138). -/
def Port.alarmsCleared (p : Port) : Port :=
  { p with overrun := false, underrun := false, overrunCount := 0, underrunCount := 0 }

/-- PORT_QUERY (R137, R138): the port's state, whose alarms CLEAR clears after the reply has taken them. -/
def execPortQuery (s : State) : Host.Outcome State Fault Refusal :=
  s.serveNow .portQuery fun b t =>
    match index? 8 (fieldAt b 0 1) with
    | none => (t, Reply.bare .range)
    | some p =>
      (if (byteAt b 1).getLsbD 0 then t.updPort p Port.alarmsCleared else t,
        Reply.okWith ((t.port p).bytes (t.boundSlot p)))

/-- A word is lost at a full enabled inbound FIFO (R127, R134). -/
def State.overruns (s : State) (p : PortIx) : State :=
  let t := s.updPort p fun x => { x with overrun := true, overrunCount := bump x.overrunCount }
  if (s.port p).overrun then t else t.report (.portAlarm p .overrun)

/-- A word arrives at an inbound port (R127). -/
def State.arrive (s : State) (p : PortIx) (w : Word) : State :=
  if (s.port p).direction = .inward ∧ (s.port p).enable = true then
    if (s.port p).occupancy < Config.fifoCap then
      (s.updPort p fun x => { x with fifo := x.fifo ++ [w] }).signal p (s.port p).condition
    else s.overruns p
  else s

/-- WORD_ARRIVAL (R127): a port whose DIRECTION is OUT sees no arrival (R122). -/
def execWordArrival (p : PortIx) (w : Word) (s : State) : Host.Outcome State Fault Refusal := s.whenRunning (·.arrive p w)

/-- A frame begins with no committed word at an enabled outbound port: zero is driven (R129, R135). -/
def State.underruns (s : State) (p : PortIx) : State :=
  let t := s.updPort p fun x => { x with underrun := true, underrunCount := bump x.underrunCount, driven := some 0 }
  if (s.port p).underrun then t else t.report (.portAlarm p .underrun)

/-- A frame begins at an outbound port (R129). -/
def State.takeWord (s : State) (p : PortIx) : State :=
  if (s.port p).direction = .outward then
    if (s.port p).enable then
      if 0 < (s.port p).committed then
        (s.updPort p fun x => { x with fifo := x.fifo.drop 1, driven := x.fifo.head? }).signal p (s.port p).condition
      else s.underruns p
    else s.updPort p fun x => { x with driven := some 0 }
  else s

/-- WORD_TAKE (R129): a port whose DIRECTION is IN sees no take (R122). -/
def execWordTake (p : PortIx) (s : State) : Host.Outcome State Fault Refusal := s.whenRunning (·.takeWord p)

end Sys2Proof.Machine
end

