-- ==== Sys2Proof/Machine/ReportCommands.lean ====
section
/-! DEFINITION. The meanings of the report queue's requests (R165–R169) and of the transmitter's rows (R163, R189). -/

namespace Sys2Proof.Machine

/-! ## Requests -/

/-- The place of the report with a SEQ in the queue; at most one has it (R161). -/
def ReportQueue.place? (q : ReportQueue) (s : Seq) : Option Nat := q.queue.findIdx? fun r => decide (r.seq = s)

/-- The report with a SEQ is in the queue and has SENT set: its place (R165). -/
def ReportQueue.sentPlace? (q : ReportQueue) (s : Seq) : Option Nat :=
  match q.place? s with
  | some n => if (q.queue[n]?.map (·.sent)) = some true then some n else none
  | none => none

/-- Step 1 of an acknowledgement: the reports up to and including place n leave, and the send position keeps its place among the rest
(R162, R165). -/
def ReportQueue.removeThrough (q : ReportQueue) (n : Nat) : ReportQueue :=
  { q with queue := q.queue.drop (n + 1), sendPos := q.sendPos - (n + 1) }

/-- Step 2 of an acknowledgement: a LOSS report carries LOST when it is above 0, and LOST becomes 0 (R165). -/
def ReportQueue.reportLoss (q : ReportQueue) : ReportQueue :=
  if 0 < q.lost then { q.take (.loss q.lost) with lost := 0 } else q

/-- The SEQ a report request's body carries (R201). -/
def seqOf (body : List Byte) : Seq := BitVec.ofNat 16 (fieldAt body 0 2)

/-- REPORT_ACK (R165): a sent report of the queue is acknowledged with every report before it; the reply carries QUEUED. -/
def execReportAck (s : State) : Host.Outcome State Fault Refusal :=
  s.serveNow .reportAck fun b t =>
    match t.reports.sentPlace? (seqOf b) with
    | none => (t, Reply.bare .seq)
    | some n =>
      (t.updReports fun q => (q.removeThrough n).reportLoss,
        Reply.okWith (leBytes 1 ((t.reports.removeThrough n).reportLoss.queue.length)))

/-- REPORT_REPLAY (R168): the send position moves to just before the report. -/
def execReportReplay (s : State) : Host.Outcome State Fault Refusal :=
  s.serveNow .reportReplay fun b t =>
    match t.reports.place? (seqOf b) with
    | none => (t, Reply.bare .seq)
    | some n => (t.updReports fun q => { q with sendPos := n }, Reply.bare .ok)

/-- REPORT_GATE (R169): GATE takes the value carried, 1 for OPEN and 0 for CLOSED. -/
def execReportGate (s : State) : Host.Outcome State Fault Refusal :=
  s.serveNow .reportGate fun b t =>
    (t.updReports fun q => { q with gateOpen := (byteAt b 0).getLsbD 0 }, Reply.bare .ok)

/-! ## The transmitter -/

/-- The reports that may be taken now: all of the queue, or while a request executes those that stood in it when the request was taken
(R189). -/
def State.takable (s : State) : Nat :=
  match s.link.executing with
  | some e => min e.reportsAtTake s.reports.queue.length
  | none => s.reports.queue.length

/-- The report offered to the transmitter: GATE is OPEN, and the report just after the send position may be taken (R163, R189). -/
def State.offered? (s : State) : Option Report :=
  if s.reports.gateOpen = true ∧ s.reports.sendPos < s.takable then s.reports.queue[s.reports.sendPos]? else none

/-- The report at a place with its SENT flag set (R163). -/
def markSent (q : List Report) (n : Nat) : List Report := q.modify n fun r => { r with sent := true }

/-- The transmitter takes the offered report: the send position moves past it, SENT is set, and its frame goes onto the line (R163). -/
def State.sendReport (s : State) (r : Report) : State :=
  (s.updReports fun q => { q with queue := markSent q.queue q.sendPos, sendPos := q.sendPos + 1 }).updLink fun k =>
    { k with transmitter := .sending r.frame.line }

/-- The transmitter takes the oldest reply out of the reply queue and its frame goes onto the line (R189). -/
def State.sendReply (s : State) (f : Frame) (rest : List Frame) : State :=
  s.updLink fun k => { k with replies := rest, transmitter := .sending f.line }

/-- The free transmitter's next choice: the oldest reply, else the offered report, else it stays free (R189). -/
def State.choose (s : State) : State :=
  match s.link.replies with
  | f :: rest => s.sendReply f rest
  | [] =>
    match s.offered? with
    | some r => s.sendReport r
    | none => s

/-- TRANSMIT_REPLY (R189): the free transmitter takes the oldest queued reply. -/
def execTransmitReply (s : State) : Host.Outcome State Fault Refusal :=
  s.whenRunning fun t =>
    match t.link.transmitter, t.link.replies with
    | .free, f :: rest => t.sendReply f rest
    | _, _ => t

/-- TRANSMIT_REPORT (R163): the free transmitter, with no reply waiting, takes the offered report. -/
def execTransmitReport (s : State) : Host.Outcome State Fault Refusal :=
  s.whenRunning fun t =>
    match t.link.transmitter, t.link.replies, t.offered? with
    | .free, [], some r => t.sendReport r
    | _, _, _ => t

/-- FRAME_SENT (R189): the frame ends, the transmitter is free again, and it chooses its next frame. -/
def execFrameSent (s : State) : Host.Outcome State Fault Refusal :=
  s.whenRunning fun t =>
    match t.link.transmitter with
    | .sending _ => (t.updLink fun k => { k with transmitter := .free }).choose
    | .free => t

end Sys2Proof.Machine
end

