-- ==== Sys2Proof/Machine/ResetCommands.lean ====
section
/-! DEFINITION. The meanings of the three power-reset rows (R144, R172, R195). -/

namespace Sys2Proof.Machine

/-- POWER_RESET (R195): RESET is driven low. Every block takes its power-reset values, and whatever was in progress is ended; the
commands that wait are not the part's state and stay. -/
def execPowerReset (s : State) : Host.Outcome State Fault Refusal := .next { State.reset with pending := s.pending }

/-- RESET_RELEASE (R195): the RATE straps are sampled (R174) and start-up begins; it has written no buffer word yet (R144). -/
def execResetRelease (straps : BitVec 2) (s : State) : Host.Outcome State Fault Refusal :=
  .next
    (if s.phase = .resetLow then { s with phase := .startUp 0, link := { s.link with rate := straps } } else s)

/-- START_UP_END (R195): the buffer words that start-up had still to write are zero (R144), the receiver takes characters in HUNT, and
RESET-DONE with cause POWER is appended as SEQ 0 (R172). -/
def execStartUpEnd (s : State) : Host.Outcome State Fault Refusal :=
  .next
    (match s.phase with
    | .startUp written =>
      State.report
        { s with
          phase := .running
          mem := memZero s.mem written Config.bufWords
          link := { s.link with receiver := .hunt, gapLeft := none } }
        (.resetDone .power)
    | _ => s)

end Sys2Proof.Machine
end

