-- ==== Sys2Proof/Machine/SlotRequests.lean ====
section
/-! DEFINITION. The meanings of the requests the slot table owns (R22–R47, R99–R104). -/

namespace Sys2Proof.Machine

/-- A slot request: the slot number is checked before the slot table examines anything else (R22). -/
def withSlot (body : List Byte) (t : State) (f : SlotIx → State × Reply) : State × Reply :=
  match index? 16 (fieldAt body 0 1) with
  | none => (t, Reply.bare .range)
  | some i => f i

/-- SLOT_SETUP (R24): the fields, the state, then the port; the seven fields are replaced. -/
def execSlotSetup (s : State) : Host.Outcome State Fault Refusal :=
  s.serveNow .slotSetup fun b t =>
    withSlot b t fun i =>
      match setup? b 1 with
      | none => (t, Reply.bare .field)
      | some u =>
        if (t.slot i).atRest then
          if t.portTaken i u.port then (t, Reply.bare .inUse)
          else (t.updSlot i fun x => { x with setup := u }, Reply.bare .ok)
        else (t, Reply.bare .state)

/-- The status of a refused arm (R32). -/
def ArmRefusal.status : ArmRefusal → Status
  | .state => .state
  | .leg => .leg
  | .inUse => .inUse

/-- SLOT_ARM (R32): the slot enters FIRST-LEG and is ARMED, with eligibility evaluated. -/
def execSlotArm (s : State) : Host.Outcome State Fault Refusal :=
  s.serveNow .slotArm fun b t =>
    withSlot b t fun i =>
      match t.arm i with
      | .ok u => (u, Reply.bare .ok)
      | .error e => (t, Reply.bare e.status)

/-- The status of refused credits (R34). -/
def CreditRefusal.status : CreditRefusal → Status
  | .mode => .mode
  | .state => .state
  | .limit => .range

/-- SLOT_START (R34): n credits; the reply carries the new CREDITS value, which the addition makes before eligibility is evaluated. -/
def execSlotStart (s : State) : Host.Outcome State Fault Refusal :=
  s.serveNow .slotStart fun b t =>
    withSlot b t fun i =>
      if 1 ≤ fieldAt b 1 1 ∧ fieldAt b 1 1 ≤ Config.creditCap then
        match t.addCredits i (fieldAt b 1 1) with
        | .ok u => (u, Reply.okWith (leBytes 1 ((t.slot i).credits + fieldAt b 1 1)))
        | .error e => (t, Reply.bare e.status)
      else (t, Reply.bare .field)

/-- SLOT_HOLD (R40). -/
def execSlotHold (s : State) : Host.Outcome State Fault Refusal :=
  s.serveNow .slotHold fun b t =>
    withSlot b t fun i =>
      match t.hold? i with
      | some u => (u, Reply.bare .ok)
      | none => (t, Reply.bare .state)

/-- The OK reply of SLOT-RESUME: the state the slot is in when the reply is queued (R43, R99). -/
def State.resumeReply (s : State) (i : SlotIx) : Reply := Reply.okWith [(s.slot i).standing.code]

/-- SLOT_RESUME (R43): HELD to ARMED with eligibility evaluated; a requested hold withdrawn; a FAULTED slot resumed (R99). -/
def execSlotResume (s : State) : Host.Outcome State Fault Refusal :=
  s.serve .slotResume fun r t =>
    match index? 16 (fieldAt r.body 0 1) with
    | none => .next (t.answer r (Reply.bare .range))
    | some i =>
      match (t.slot i).standing with
      | .inLeg l .held =>
        let u := (t.setLegState i l .armed).evaluate i
        .next (u.answer r (u.resumeReply i))
      | .inLeg _ .active | .inLeg _ .suspended =>
        if (t.slot i).holdRequested then
          let u := t.updSlot i fun x => { x with holdRequested := false }
          .next (u.answer r (u.resumeReply i))
        else .next (t.answer r (Reply.bare .state))
      | .inLeg l (.faulted f) =>
        match t.resumeFaulted i l f.cause with
        | .done u => .next (u.answer r (u.resumeReply i))
        | .refused => .next (t.answer r (Reply.bare .leg))
        | .stuck k => .fault (.freeLeg k)
      | _ => .next (t.answer r (Reply.bare .state))

/-- SLOT_CANCEL (R44, R45): refused in IDLE; of an ACTIVE slot it waits for the element in flight; otherwise the slot is IDLE at once. -/
def execSlotCancel (s : State) : Host.Outcome State Fault Refusal :=
  s.serve .slotCancel fun r t =>
    match index? 16 (fieldAt r.body 0 1) with
    | none => .next (t.answer r (Reply.bare .range))
    | some i =>
      match (t.slot i).standing with
      | .idle => .next (t.answer r (Reply.bare .state))
      | .inLeg _ .active => .next (t.holdEngine r (.cancel i))
      | _ => .next ((t.cancelAtOnce i).answer r (Reply.bare .ok))

/-- SLOT_QUERY (R47): the whole record; nothing changes. -/
def execSlotQuery (s : State) : Host.Outcome State Fault Refusal :=
  s.serveNow .slotQuery fun b t => withSlot b t fun i => (t, Reply.okWith (t.slot i).bytes)

end Sys2Proof.Machine
end

