-- ==== Sys2Proof/Machine/TriggerCommands.lean ====
section
/-! DEFINITION. The meanings of the trigger table's requests (R107, R108) and of taking a slot event (R111–R118). -/

namespace Sys2Proof.Machine

/-- TRIG_SET (R107): the index, then the field checks; the entry is written whole. -/
def execTrigSet (s : State) : Host.Outcome State Fault Refusal :=
  s.serveNow .trigSet fun b t =>
    match index? 32 (fieldAt b 0 1) with
    | none => (t, Reply.bare .range)
    | some k =>
      match trigger? b with
      | none => (t, Reply.bare .field)
      | some e => (t.setTrigger k e, Reply.bare .ok)

/-- TRIG_READ (R108): the six fields of an entry; nothing changes. -/
def execTrigRead (s : State) : Host.Outcome State Fault Refusal :=
  s.serveNow .trigRead fun b t =>
    match index? 32 (fieldAt b 0 1) with
    | none => (t, Reply.bare .range)
    | some k => (t, Reply.okWith (t.trigger k).bytes)

/-- The drop reason of refused credits (R113, R116). -/
def CreditRefusal.dropReason : CreditRefusal → DropReason
  | .mode => .mode
  | .state => .state
  | .limit => .credits

/-- The drop reason of a refused arm (R114, R116). -/
def ArmRefusal.dropReason : ArmRefusal → DropReason
  | .state => .state
  | .leg => .leg
  | .inUse => .inUse

/-- An action is taken at its target (R112–R115); one the target refuses appends a TRIGGER-DROP report with its reason (R116). -/
def State.act (s : State) (k : TrigIx) (target : SlotIx) (a : Action) : State :=
  match a with
  | .start =>
    match s.addCredits target 1 with
    | .ok t => t
    | .error e => s.report (.triggerDrop k target e.dropReason)
  | .arm =>
    match s.arm target with
    | .ok t => t
    | .error e => s.report (.triggerDrop k target e.dropReason)
  | .hold =>
    match s.hold? target with
    | some t => t
    | none => s.report (.triggerDrop k target .state)

/-- The entry answers the event (R111). -/
def Trigger.matchesEvent (t : Trigger) (e : SlotEvent) : Bool :=
  t.enabled && decide (t.event = e.kind) && decide (t.source = e.slot)

/-- An entry as the scan meets it: where it matches, a ONE-SHOT entry is disabled and the action is taken (R111). -/
def State.fireEntry (s : State) (e : SlotEvent) (k : TrigIx) : State :=
  if (s.trigger k).matchesEvent e then
    ((if (s.trigger k).oneShot then s.setTrigger k { s.trigger k with enabled := false } else s).act k (s.trigger k).target
      (s.trigger k).action)
  else s

/-- The scan of the 32 entries in ascending order, each as it stands at that moment (R111). A release that is outstanding may act before
each entry and after the last: the arbiter's grant and the cancel are other claims, taken before or after each action (R45, R94,
R112). -/
def State.scan (s : State) (e : SlotEvent) : State :=
  ((List.finRange 32).foldl (fun t k => t.passPoint.fireEntry e k) s).passPoint

/-- TRIGGER_EVENT (R111): the trigger table takes the oldest event that has reached it, whole with its firings. -/
def execTriggerEvent (s : State) : Host.Outcome State Fault Refusal :=
  s.whenRunning fun t =>
    match t.events with
    | [] => t
    | e :: rest => State.scan { t with events := rest } e

end Sys2Proof.Machine
end

