-- ==== Sys2Proof/Machine/Dispatch.lean ====
section
/-! DEFINITION. Which meaning each command has. -/

namespace Sys2Proof.Machine

/-- The effect of a command on everything but the queue of the commands that wait. -/
def exec (i : Instr) (s : State) : Host.Outcome State Fault Refusal :=
  match i with
  | .powerReset => Sys2Proof.Machine.execPowerReset s
  | .resetRelease straps => Sys2Proof.Machine.execResetRelease straps s
  | .startUpEnd => Sys2Proof.Machine.execStartUpEnd s
  | .frameReceived b => Sys2Proof.Machine.execFrameReceived b s
  | .lengthError b => Sys2Proof.Machine.execLengthError b s
  | .gapTimeout => Sys2Proof.Machine.execGapTimeout s
  | .lineBreak => Sys2Proof.Machine.execLineBreak s
  | .hello => Sys2Proof.Machine.execHello s
  | .linkStatus => Sys2Proof.Machine.execLinkStatus s
  | .engineReset => Sys2Proof.Machine.execEngineReset s
  | .bufWrite order => Sys2Proof.Machine.execBufWrite order s
  | .bufRead order => Sys2Proof.Machine.execBufRead order s
  | .hostBlockGrant => Sys2Proof.Machine.execHostBlockGrant s
  | .fenceSet => Sys2Proof.Machine.execFenceSet s
  | .fenceRead => Sys2Proof.Machine.execFenceRead s
  | .legLoad => Sys2Proof.Machine.execLegLoad s
  | .legRead => Sys2Proof.Machine.execLegRead s
  | .legLink => Sys2Proof.Machine.execLegLink s
  | .slotSetup => Sys2Proof.Machine.execSlotSetup s
  | .slotArm => Sys2Proof.Machine.execSlotArm s
  | .slotStart => Sys2Proof.Machine.execSlotStart s
  | .slotHold => Sys2Proof.Machine.execSlotHold s
  | .slotResume => Sys2Proof.Machine.execSlotResume s
  | .slotCancel => Sys2Proof.Machine.execSlotCancel s
  | .slotQuery => Sys2Proof.Machine.execSlotQuery s
  | .trigSet => Sys2Proof.Machine.execTrigSet s
  | .trigRead => Sys2Proof.Machine.execTrigRead s
  | .portSetup => Sys2Proof.Machine.execPortSetup s
  | .portQuery => Sys2Proof.Machine.execPortQuery s
  | .reportAck => Sys2Proof.Machine.execReportAck s
  | .reportReplay => Sys2Proof.Machine.execReportReplay s
  | .reportGate => Sys2Proof.Machine.execReportGate s
  | .transmitReply => Sys2Proof.Machine.execTransmitReply s
  | .transmitReport => Sys2Proof.Machine.execTransmitReport s
  | .element order => Sys2Proof.Machine.execElement order s
  | .paceExpiry slot => Sys2Proof.Machine.execPaceExpiry slot s
  | .wordArrival port word => Sys2Proof.Machine.execWordArrival port word s
  | .wordTake port => Sys2Proof.Machine.execWordTake port s
  | .upset upset => Sys2Proof.Machine.execUpset upset s
  | .triggerEvent => Sys2Proof.Machine.execTriggerEvent s
  | .byteDelivered b => Sys2Proof.Machine.execByteDelivered b s
  | .frameSent => Sys2Proof.Machine.execFrameSent s
  | .lineHighAfterBreak => Sys2Proof.Machine.execLineHighAfterBreak s

end Sys2Proof.Machine
end

