-- ==== Sys2Proof/Safety.lean ====
section
/-! DEFINITION. What counts as a safe run, and the laws of the part that every step keeps: the invariants the spec states in its
prose, each named after its rule, and the conditions under which the request engine takes a request. -/

namespace Sys2Proof

open Machine

/-! ## Safe runs -/

/-- A step that goes on. -/
def goesOn (o : Host.Outcome Machine.State Machine.Fault Machine.Refusal) : Bool :=
  match o with
  | .next _ => true
  | .fault _ => false
  | .refused _ => false

/-- The first k steps from a state go on: the run meets no fault and no refusal. -/
def SafeFor (k : Nat) (s : Machine.State) : Bool := goesOn (core.run k s)

/-! ## Taking and answering a request, in the spec's own terms -/

/-- The request engine may take r (R185): the part runs, no request executes, the reply queue holds fewer than 12 replies, and r is the
oldest inbox request, with `rest` behind it. -/
abbrev Takes (s : State) (r : Request) (rest : List Request) : Prop :=
  s.phase = .running ∧ s.link.executing = none ∧ s.link.replies.length < 12 ∧ s.link.inbox = r :: rest

/-- The reply frame of a request (R187, R197): KIND plus 80h, the request's TAG, STATUS and the reply fields. -/
def replyFrame (r : Request) (st : Status) (data : List Byte) : Frame :=
  { kind := r.kind.code + 0x80, tag := r.tag, body := st.code :: data }

/-- The link once r has been taken and answered (R184, R187): the reply stands at the back of the reply queue, and the cache, whose oldest
entry goes when it holds 16, has its new entry. -/
def replied (k : Link) (r : Request) (rest : List Request) (st : Status) (data : List Byte) : Link :=
  { k with
    inbox := rest
    executing := none
    replies := k.replies ++ [replyFrame r st data]
    cache := (if k.cache.length < 16 then k.cache else k.cache.drop 1)
      ++ [{ tag := r.tag, crc := r.crc, reply := replyFrame r st data }] }

/-- The link once r has been taken and waits (R185): it is the executing request. -/
def waiting (k : Link) (r : Request) (rest : List Request) (w : Wait) (reports : Nat) : Link :=
  { k with inbox := rest, executing := some { request := r, waits := w, reportsAtTake := reports } }

/-- The kind of request a request row of the table takes. -/
def commandKind : Instr → Option ReqKind
  | .hello => some .hello | .linkStatus => some .linkStatus | .engineReset => some .engineReset
  | .bufWrite _ => some .bufWrite | .bufRead _ => some .bufRead | .fenceSet => some .fenceSet | .fenceRead => some .fenceRead
  | .legLoad => some .legLoad | .legRead => some .legRead | .legLink => some .legLink
  | .slotSetup => some .slotSetup | .slotArm => some .slotArm | .slotStart => some .slotStart | .slotHold => some .slotHold
  | .slotResume => some .slotResume | .slotCancel => some .slotCancel | .slotQuery => some .slotQuery
  | .trigSet => some .trigSet | .trigRead => some .trigRead | .portSetup => some .portSetup | .portQuery => some .portQuery
  | .reportAck => some .reportAck | .reportReplay => some .reportReplay | .reportGate => some .reportGate
  | .powerReset | .resetRelease _ | .startUpEnd | .frameReceived _ | .lengthError _ | .gapTimeout | .lineBreak
  | .hostBlockGrant | .transmitReply | .transmitReport | .element _ | .paceExpiry _ | .wordArrival _ _ | .wordTake _
  | .upset _ | .triggerEvent | .byteDelivered _ | .frameSent | .lineHighAfterBreak => none

/-- An element is in flight and nothing keeps it waiting (R52): the mover serves slot i, ACTIVE in leg l with record r, and its element,
if it needs the buffer, does not wait behind a host block. -/
abbrev InFlight (s : State) (i : SlotIx) (l : LegIx) (r : LegRecord) (snap : Snapshot) : Prop :=
  s.phase = .running ∧ s.arb.mover = .busy i snap ∧ (s.slot i).standing = .inLeg l .active ∧ (s.leg l).record = some r ∧
    (r.usesBuffer = true → s.bufArb.grant ≠ some .link)

/-! ## An element, in the spec's own terms -/

/-- The fence checks of the element pass, where k FENCE-SETs came after its grant (R53, R150). -/
abbrev Permitted (s : State) (k : Nat) (r : LegRecord) (x : Slot) : Prop :=
  (∀ p, r.src = .buffer p → moverMayRead (s.elementFences k) x.src = true) ∧
    ∀ p, r.dst = .buffer p → moverMayWrite (s.elementFences k) x.dst = true

/-- The word the element moves is w (R54): the good word at SRC, the inbound port's oldest word not yet read, or SRC-VALUE. -/
abbrev Obtains (s : State) (r : LegRecord) (x : Slot) (w : Word) : Prop :=
  match r.src with
  | .buffer _ => s.word x.src = .good w
  | .port p => (s.port p).direction = .inward ∧ (s.port p).fifo[(s.port p).tentative]? = some w
  | .const v => w = v

/-- A PORT destination has a free place (R55). -/
abbrev HasRoom (s : State) (r : LegRecord) : Prop :=
  ∀ p, r.dst = .port p → (s.port p).direction = .outward ∧ (s.port p).fifo.length < 32

/-- The element in flight of slot i takes its six steps, moving w, where k FENCE-SETs came after its grant (R52). -/
abbrev ElementMoves (s : State) (k : Nat) (i : SlotIx) (l : LegIx) (r : LegRecord) (snap : Snapshot) (w : Word) : Prop :=
  InFlight s i l r snap ∧ Permitted s k r (s.slot i) ∧ Obtains s r (s.slot i) w ∧ HasRoom s r

/-- The element in flight fails with this cause, where k FENCE-SETs came after its grant (R53, R54): a BUFFER source the mover may not read, else a BUFFER destination it may not
write, else a damaged BUFFER source word. -/
abbrev Fails (s : State) (k : Nat) (r : LegRecord) (x : Slot) (c : FaultCause) : Prop :=
  ((∃ p, r.src = .buffer p) ∧ moverMayRead (s.elementFences k) x.src = false ∧ c = .fenceRead x.src) ∨
    ((∀ p, r.src = .buffer p → moverMayRead (s.elementFences k) x.src = true) ∧ (∃ p, r.dst = .buffer p) ∧
      moverMayWrite (s.elementFences k) x.dst = false ∧ c = .fenceWrite x.dst) ∨
    (Permitted s k r x ∧ (∃ p, r.src = .buffer p) ∧ s.word x.src = .damaged ∧ c = .parity x.src)

/-- No request waits for the element in flight: the executing request, if there is one, is a host block (R45, R185, R193). -/
abbrev NoneWaits (s : State) : Prop := ∀ e, s.link.executing = some e → e.waits = .hostBlock

/-- The buffer arbiter after the completion of an element with record r that held the grant, if it needed one (R146): a waiting host block
has the grant, or nobody. -/
def grantPassedOn (r : LegRecord) (b : BufArbiter) : BufArbiter :=
  if r.usesBuffer then
    if b.waiting = some .link then { grant := some .link, waiting := none, last := .link, fencesAtGrant := none, fencesReplaced := [] }
    else { grant := none, waiting := none, last := .mover, fencesAtGrant := none, fencesReplaced := [] }
  else b

/-- The part once the element of slot i has moved w and passed its grant on (R54–R56, R146): the words of memory and of the ports, the
slot's digest and addresses. ELEMENT has not risen yet. -/
def wordMoved (s : State) (i : SlotIx) (r : LegRecord) (w : Word) : State :=
  let read : Vector Port 8 :=
    match r.src with
    | .port p => s.ports.set p { s.port p with tentative := (s.port p).tentative + 1 }
    | _ => s.ports
  { s with
    bufArb := grantPassedOn r s.bufArb
    mem :=
      match r.dst with
      | .buffer _ => memWrite s.mem (s.slot i).dst.toNat (.good w)
      | .port _ => s.mem
    ports :=
      match r.dst with
      | .buffer _ => read
      | .port p => read.set p { s.port p with fifo := (s.port p).fifo ++ [w], staged := (s.port p).staged + 1 }
    slots := s.slots.set i
      { s.slot i with
        digest := if r.digest then digestWord (s.slot i).digest w else (s.slot i).digest
        src := r.srcStepped (s.slot i).src
        dst := r.dstStepped (s.slot i).dst } }

/-- The ports once the words of an abandoned burst in a leg with record r are given back or discarded (R67). -/
def portsSettledBack (s : State) (r : LegRecord) : Vector Port 8 :=
  match r.srcPort.or r.dstPort with
  | none => s.ports
  | some p =>
    s.ports.set p
      { s.port p with
        fifo := (s.port p).fifo.take ((s.port p).fifo.length - (s.port p).staged), tentative := 0, staged := 0 }

/-- The buffer arbiter after the completion of a host block under a fence table (R146): a waiting element has the grant, made under that
table, or nobody; LAST-GRANT names the one whose grant was the last. -/
def grantAfterBlock (fences : Vector Fence 8) (b : BufArbiter) : BufArbiter :=
  if b.waiting = some .mover then { grant := some .mover, waiting := none, last := .mover, fencesAtGrant := some fences, fencesReplaced := [] }
  else { grant := none, waiting := none, last := .link, fencesAtGrant := none, fencesReplaced := [] }

/-- What a burst's end comes to at its release (R45, R81, R84, R94, R110): with the selection in the element's own step, a waiting cancel
acts and the arbiter selects; otherwise the release is outstanding for n points, and the cancel acts now or in c of them. -/
def released (s : State) (c n : Nat) : State :=
  if n = 0 then s.cancelWaiting.select
  else
    let t := if c = 0 then s.cancelWaiting else s
    { t with arb := { t.arb with mover := .releasing c n } }

/-! ## Laws of one block -/

/-- The law of the report queue (R161): at most 32 reports, with consecutive SEQs that end just below NEXT-SEQ; the send position within
the queue or at its end; LOST, at most 65535, above 0 only while the queue holds 32. -/
abbrev ReportLaw (q : ReportQueue) : Prop :=
  q.queue.length ≤ 32 ∧ q.sendPos ≤ q.queue.length ∧ q.lost ≤ 65535 ∧ (0 < q.lost → q.queue.length = 32) ∧
    ∀ n : Fin q.queue.length, q.queue[n].seq + BitVec.ofNat 16 (q.queue.length - n) = q.nextSeq

/-- The law of the link's queues (R183, R184, R188): at most 8 inbox requests, at most 12 replies with the reserved place, at most 16
cache entries; the tags in use are distinct, the cached tags are distinct, and none is both. -/
abbrev LinkLaw (k : Link) : Prop :=
  k.inbox.length ≤ 8 ∧ k.replies.length + k.reserved ≤ 12 ∧ k.cache.length ≤ 16 ∧
    (k.inUse.map (·.tag)).Nodup ∧ (k.cache.map (·.tag)).Nodup ∧
    ∀ e ∈ k.cache, ∀ r ∈ k.inUse, e.tag ≠ r.tag

/-- The law of a port (R123, R124): THRESHOLD is 1–32, the FIFO holds at most 32 words; inbound, nothing is staged and TENTATIVE is at
most OCCUPANCY; outbound, nothing is tentative and STAGED is at most the FIFO's words. -/
abbrev PortLaw (p : Port) : Prop :=
  1 ≤ p.threshold ∧ p.threshold ≤ 32 ∧ p.fifo.length ≤ 32 ∧ p.overrunCount ≤ 65535 ∧ p.underrunCount ≤ 65535 ∧
    (p.direction = .inward → p.staged = 0 ∧ p.tentative ≤ p.fifo.length) ∧
    (p.direction = .outward → p.tentative = 0 ∧ p.staged ≤ p.fifo.length)

/-! ## Laws of the transfer side -/

/-- The pin law (R12): a leg's pin count is the number of slots whose current leg it is, and a pinned leg is LOADED. -/
abbrev PinLaw (s : State) : Prop :=
  ∀ l : LegIx, (s.leg l).pins = s.users l ∧ (0 < (s.leg l).pins → (s.leg l).record.isSome = true)

/-- The binding law (R25): no two slots outside IDLE are bound to the same port. -/
abbrev BindingLaw (s : State) : Prop :=
  ∀ i j : SlotIx, ∀ p : PortIx, (s.slot i).boundTo p = true → (s.slot j).boundTo p = true → i = j

/-- The slot the mover serves, where it is busy (R48). -/
def State.served (s : State) : Option SlotIx :=
  match s.arb.mover with
  | .busy i _ => some i
  | _ => none

/-- The law of the arbiter (R75, R76, R77): the ACTIVE slot is the one the mover serves; the SUSPENDED slots are those on the stack,
each once, at most three, with PRIORITY falling from the top down and the ACTIVE slot's above the top's; an idle mover leaves
the ready set and the stack empty. -/
abbrev ArbiterLaw (s : State) : Prop :=
  (∀ i, (s.slot i).isActive = true ↔ Sys2Proof.State.served s = some i) ∧
    (∀ i, (s.slot i).isSuspended = true ↔ i ∈ s.arb.stack.map (·.slot)) ∧
    (s.arb.stack.map (·.slot)).Nodup ∧ s.arb.stack.length ≤ 3 ∧
    (s.arb.stack.map fun e => (s.slot e.slot).setup.priority).Pairwise (· > ·) ∧
    (∀ i, Sys2Proof.State.served s = some i → ∀ e ∈ s.arb.stack, (s.slot e.slot).setup.priority < (s.slot i).setup.priority) ∧
    (s.arb.mover = .idle → s.arb.stack = [] ∧ ∀ i, (s.slot i).isReady = false)

/-- The credit law (R33): CREDITS with the outstanding credit never pass 15. -/
abbrev CreditLaw (s : State) : Prop := ∀ i : SlotIx, (s.slot i).credits + s.outstanding i ≤ 15

/-- The element law (R26): a slot that is neither ACTIVE nor SUSPENDED has ELEMENT 0. -/
abbrev ElementLaw (s : State) : Prop :=
  ∀ i : SlotIx, (s.slot i).isActive = false → (s.slot i).isSuspended = false → (s.slot i).element = 0

/-- The law of the leg store (R15): every record it holds passes the record check. -/
abbrev LegLaw (s : State) : Prop :=
  ∀ l : LegIx, ∀ r ∈ (s.leg l).record,
    1 ≤ r.burst ∧ r.burst ≤ 256 ∧ 1 ≤ r.count ∧ r.count ≤ 65535 ∧ r.mark < r.count ∧ portToPort r.src r.dst = false ∧
      (r.expect.isSome = true → r.digest = true)

/-- The slot is FAULTED at RESUME-POINT LEG-END (R90). -/
def faultedAtLegEnd (x : Slot) : Bool :=
  match x.faultRecord with
  | some f => decide (f.cause.resumePoint = .legEnd)
  | none => false

/-- The law of REMAINING (R27): a slot with a current leg has REMAINING between 1 and the leg's COUNT, but 0 in FAULTED at LEG-END. -/
abbrev RemainingLaw (s : State) : Prop :=
  ∀ i : SlotIx, ∀ l ∈ (s.slot i).currentLeg, ∀ r ∈ (s.leg l).record,
    if faultedAtLegEnd (s.slot i) then (s.slot i).remaining = 0
    else 1 ≤ (s.slot i).remaining ∧ (s.slot i).remaining ≤ r.count

/-- The law of the fault record (R90): its LEG and REMAINING equal the slot's, and at LEG-END its ELEMENT is 0. -/
abbrev FaultLaw (s : State) : Prop :=
  ∀ i : SlotIx, ∀ f ∈ (s.slot i).faultRecord,
    (s.slot i).currentLeg = some f.leg ∧ f.remaining = (s.slot i).remaining ∧
      (f.cause.resumePoint = .legEnd → f.element = 0)

/-- What holds between a slot and the port of its leg (R30, R54, R55, R132): the leg matches the binding; but in FAULTED the port is set up
to suit it; in mid-burst the port holds the burst's words or places; in READY the port's request condition is true. -/
abbrev SlotStream (s : State) (x : Slot) : Prop :=
  ∀ l ∈ x.currentLeg, ∀ r ∈ (s.leg l).record,
    bindingMatch x.setup.port r = true ∧
      (x.faultRecord = none → portSuits x.setup.port r s.ports = true) ∧
      (x.isActive = true ∨ x.isSuspended = true →
        x.element < r.burst ∧
          (∀ p ∈ r.srcPort, (s.port p).tentative = x.element ∧ r.burst ≤ (s.port p).fifo.length) ∧
          (∀ p ∈ r.dstPort, (s.port p).staged = x.element ∧ (s.port p).committed + r.burst ≤ 32)) ∧
      (x.isReady = true → ∀ p ∈ x.setup.port, (s.port p).condition = true)

/-- The law of the streams (R26, R54, R55): every slot stands with its port as its state asks, and a port whose bound slot is in no
burst holds no tentative and no staged words. -/
abbrev StreamLaw (s : State) : Prop :=
  (∀ i : SlotIx, SlotStream s (s.slot i)) ∧
    ∀ p : PortIx, (∀ i : SlotIx, (s.slot i).boundTo p = true → (s.slot i).isActive = false ∧ (s.slot i).isSuspended = false) →
      (s.port p).tentative = 0 ∧ (s.port p).staged = 0

/-- The laws of the transfer side together. -/
abbrev TransferLaw (s : State) : Prop :=
  PinLaw s ∧ BindingLaw s ∧ ArbiterLaw s ∧ ElementLaw s ∧ LegLaw s ∧ (∀ p, PortLaw (s.port p)) ∧ StreamLaw s

end Sys2Proof
end

