-- ==== Sys2Proof/Certificates/Slice0/Obligations.lean ====
section
/-! DEFINITION. The statements for the provers, one for each entry of OBLIGATIONS.json. Where a clause rests on a choice of the
model, its text names the log entry. -/

open Sys2Proof Sys2Proof.Machine

/-- For every command c and state s with c at the front of its queue, the step of s is exec of c on s with the queue's rest.
With an empty queue the step answers a next state in which every running pace timer and the running gap timer have one
microsecond less, not below 0, and nothing else differs. This is the model's choice (notes/assumptions/7.md). -/
def Obligations.StepRunsFrontCommandOrTicks : Prop :=
  (∀ (c : Instr) (s : State) (rest : List Instr), s.pending = c :: rest → step s = exec c { s with pending := rest }) ∧
    (∀ s : State, s.pending = [] →
    ∃ t, step s = .next t ∧
      t = { s with slots := t.slots, link := { s.link with gapLeft := s.link.gapLeft.map fun n => n - 1 } } ∧
      ∀ i : SlotIx, t.slot i =
        match (s.slot i).standing with
        | .inLeg l (.paced n) => { s.slot i with standing := .inLeg l (.paced (n - 1)) }
        | _ => s.slot i)

/-- In every state every command answers a next state, except that ELEMENT and SLOT_RESUME can stop with a fault; no command
is ever refused. Both halves are the model's: a row that a state cannot bring about leaves it and goes on (log entry 4), and
the faults are those of states the spec's laws rule out (log entry 16). -/
def Obligations.CommandsGoOn : Prop :=
  ∀ (c : Instr) (s : State),
    (∃ t, exec c s = .next t) ∨ ∃ f, exec c s = .fault f ∧ (c = .slotResume ∨ ∃ o, c = .element o)

/-- Whatever command runs, the queue of the commands that wait is the same in the next state: exec is the command's effect on
everything but that queue. The queue is the model's, and so is that every command keeps it, POWER_RESET too (log entry 3). -/
def Obligations.CommandsKeepTheQueue : Prop :=
  ∀ (c : Instr) (s t : State), exec c s = .next t → t.pending = s.pending

/-- From every state POWER_RESET leaves the state after reset, with the waiting commands as they were, which is the model's
choice (log entry 3); and in the state after reset every leg entry is FREE and unpinned, every slot IDLE with the default
setup and a zero context, the arbiters, fences, ports, triggers, report queue and link hold the values their tables give. The
rate code 0 before the straps are sampled and the unlisted memory are the model's choices (log entries 1 and 2). -/
def Obligations.PowerResetRestoresEveryBlock : Prop :=
  (∀ s : State, exec .powerReset s = .next { State.reset with pending := s.pending }) ∧
    (∀ l, State.reset.leg l = { record := none, pins := 0 }) ∧
    (∀ i, State.reset.slot i =
      { setup := { priority := 0, yields := true, preempt := false, port := none, runLeg := false, pace := 0, firstLeg := none }
        standing := .idle, src := 0, dst := 0, remaining := 0, element := 0, digest := 0, legRun := false, credits := 0
        holdRequested := false }) ∧
    (∀ v : Level, State.reset.arb.pointers.get v = 15) ∧ State.reset.arb.stack = [] ∧ State.reset.arb.mover = .idle ∧
    State.reset.bufArb = { grant := none, waiting := none, last := .link, fencesAtGrant := none, fencesReplaced := [] } ∧
    (∀ k, State.reset.fence k = { enabled := false, base := 0, size := 65536, mover := .readWrite, host := .readWrite }) ∧
    (∀ p, State.reset.port p =
      { direction := .inward, threshold := 1, enable := false, fifo := [], tentative := 0, staged := 0, overrun := false
        underrun := false, overrunCount := 0, underrunCount := 0, driven := none }) ∧
    (∀ k, State.reset.trigger k =
      { enabled := false, oneShot := false, event := .burstEnd, source := 0, target := 0, action := .start }) ∧
    State.reset.events = [] ∧
    State.reset.reports = { queue := [], nextSeq := 0, sendPos := 0, gateOpen := true, lost := 0 } ∧
    State.reset.reports.attn = false ∧
    State.reset.link =
      { receiver := .hunt, gapLeft := none, breakHeld := false, inbox := [], executing := none, replies := [], cache := []
        transmitter := .free, rate := 0
        counters :=
          { crcErrors := 0, lengthErrors := 0, gapTimeouts := 0, breaks := 0, fullRejects := 0, duplicates := 0, replays := 0
            replyDrops := 0 } }

/-- With RESET low, RESET_RELEASE leads to start-up with the rate code sampled and no buffer word written yet. In start-up
that has written n words, START_UP_END leads to the running part with every word from n on a good zero and the words below n
as they are, the receiver in HUNT and its gap timer stopped; with the report queue at its power-reset values the queue then
holds RESET-DONE with cause POWER as SEQ 0, unsent, NEXT-SEQ is 1 and ATTN is asserted. Nothing else changes. So with no
UPSET between them the two leave every word a good zero. That start-up comes on at an UPSET and at its end alone is the
model's choice (log entry 2), and so is that in any other phase neither command changes anything (log entry 4). -/
def Obligations.StartUpZeroesTheBufferAndReports : Prop :=
  (∀ (s : State) (straps : BitVec 2), s.phase = .resetLow →
      exec (.resetRelease straps) s = .next { s with phase := .startUp 0, link := { s.link with rate := straps } }) ∧
    (∀ (s : State) (n : Nat), s.phase = .startUp n →
      ∃ t, exec .startUpEnd s = .next t ∧
        t = { s with
          phase := .running
          mem := t.mem
          link := { s.link with receiver := .hunt, gapLeft := none }
          reports := s.reports.take (.resetDone .power) } ∧
        ∀ a : Addr, t.word a = if a.toNat < n then s.word a else .good 0) ∧
    ReportQueue.initial.take (.resetDone .power) =
      { queue := [{ seq := 0, body := .resetDone .power, sent := false }], nextSeq := 1, sendPos := 0, gateOpen := true
        lost := 0 } ∧
    (ReportQueue.initial.take (.resetDone .power)).attn = true ∧
    (∀ (s t u : State) (straps : BitVec 2), s.phase = .resetLow → exec (.resetRelease straps) s = .next t →
      exec .startUpEnd t = .next u → ∀ a : Addr, u.word a = .good 0) ∧
    (∀ (s : State) (straps : BitVec 2), s.phase ≠ .resetLow → exec (.resetRelease straps) s = .next s) ∧
    (∀ s : State, (∀ n, s.phase ≠ .startUp n) → exec .startUpEnd s = .next s)

/-- While the part runs and no break holds the receiver: in HUNT, A5h leads to LENGTH and starts the gap timer and any other
byte is discarded; in LENGTH, 2 to 250 is kept as LEN and leads to BODY; in BODY every byte is kept and the one that makes
LEN bytes leads to CHECK; in CHECK the first byte is kept as the low CRC byte. Each kept byte restarts the gap timer at 2 ms,
and nothing else changes. While the part runs: in LENGTH with no break holding, a LEN byte of 0, 1 or 251 to 255 raises
LENGTH-ERRORS; outside HUNT, the gap timer's expiry raises GAP-TIMEOUTS; a break that is not already held raises BREAKS and
holds the receiver; each of the three drops the partial frame, stops the gap timer and leaves the receiver in HUNT. A held
break counts no second time, no byte is taken while it holds, and LINE_HIGH_AFTER_BREAK ends it. A counter at 65535 stays
there. Nothing else changes. While RESET is low and through start-up the receiver ignores the line, and none of the six rows
of the receiver changes anything. -/
def Obligations.ReceiverFollowsItsTable : Prop :=
  (∀ (s : State) (b : Byte), s.phase = .running → s.link.breakHeld = false →
    (s.link.receiver = .hunt →
      exec (.byteDelivered b) s =
        .next (if b = 0xA5 then { s with link := { s.link with receiver := .length, gapLeft := some 2000 } } else s)) ∧
    (s.link.receiver = .length → 2 ≤ b.toNat → b.toNat ≤ 250 →
      exec (.byteDelivered b) s = .next { s with link := { s.link with receiver := .body b [], gapLeft := some 2000 } }) ∧
    (∀ len kept, s.link.receiver = .body len kept → kept.length + 1 < len.toNat →
      exec (.byteDelivered b) s =
        .next { s with link := { s.link with receiver := .body len (kept ++ [b]), gapLeft := some 2000 } }) ∧
    (∀ len kept, s.link.receiver = .body len kept → kept.length + 1 = len.toNat →
      exec (.byteDelivered b) s =
        .next { s with link := { s.link with receiver := .check len (kept ++ [b]) none, gapLeft := some 2000 } }) ∧
    (∀ len kept, s.link.receiver = .check len kept none →
      exec (.byteDelivered b) s =
        .next { s with link := { s.link with receiver := .check len kept (some b), gapLeft := some 2000 } })) ∧
    ((∀ s : State, s.phase ≠ .running →
      (∀ b : Byte, exec (.byteDelivered b) s = .next s ∧ exec (.frameReceived b) s = .next s ∧
        exec (.lengthError b) s = .next s) ∧
      exec .gapTimeout s = .next s ∧ exec .lineBreak s = .next s ∧ exec .lineHighAfterBreak s = .next s) ∧
    ∀ s : State, s.phase = .running →
    (∀ b : Byte, s.link.receiver = .length → s.link.breakHeld = false → b.toNat < 2 ∨ 250 < b.toNat →
      exec (.lengthError b) s = exec (.byteDelivered b) s ∧
      exec (.lengthError b) s =
        .next { s with link := { s.link with
          receiver := .hunt, gapLeft := none
          counters := { s.link.counters with lengthErrors := bump s.link.counters.lengthErrors } } }) ∧
    (s.link.receiver ≠ .hunt →
      exec .gapTimeout s =
        .next { s with link := { s.link with
          receiver := .hunt, gapLeft := none
          counters := { s.link.counters with gapTimeouts := bump s.link.counters.gapTimeouts } } }) ∧
    (s.link.breakHeld = false →
      exec .lineBreak s =
        .next { s with link := { s.link with
          receiver := .hunt, gapLeft := none, breakHeld := true
          counters := { s.link.counters with breaks := bump s.link.counters.breaks } } }) ∧
    (s.link.breakHeld = true → exec .lineBreak s = .next s ∧ ∀ b, exec (.byteDelivered b) s = .next s) ∧
    exec .lineHighAfterBreak s = .next { s with link := { s.link with breakHeld := false } } ∧
    (∀ n, n < 65535 → bump n = n + 1) ∧ bump 65535 = 65535)

/-- When the second CRC byte arrives, the receiver enters HUNT and the frame check decides. A different CRC raises CRC-ERRORS
and drops the frame. A good frame whose KIND is no request code is answered with the immediate reply KIND. Otherwise, with k
the link in HUNT: a cache entry with its TAG and CRC is answered with a copy and REPLAYS rises; else a cache entry with its
TAG is removed; then a request in use with its TAG and CRC makes it a duplicate, DUPLICATES rises; with the TAG but another
CRC it is answered TAG-BUSY; with 8 requests in the inbox FULL-REJECTS rises and it is answered FULL; otherwise it joins the
back of the inbox. An immediate reply is queued below 12 replies and reserved places and is dropped and counted otherwise. No
other block changes. -/
def Obligations.FrameReceivedSortsTheFrame : Prop :=
  ∀ (s : State) (len kind tag low high : Byte) (body : List Byte),
    s.phase = .running → s.link.breakHeld = false → s.link.receiver = .check len (kind :: tag :: body) (some low) →
    let crc : Crc := BitVec.ofNat 16 (low.toNat + 256 * high.toNat)
    let k : Link := { s.link with receiver := .hunt, gapLeft := none }
    let queued (k : Link) (f : Frame) : Link :=
      if k.replies.length + k.reserved < 12 then { k with replies := k.replies ++ [f] }
      else { k with counters := { k.counters with replyDrops := bump k.counters.replyDrops } }
    let after : Link :=
      if frameCrc (len :: kind :: tag :: body) ≠ crc then
        { k with counters := { k.counters with crcErrors := bump k.counters.crcErrors } }
      else
        match ReqKind.ofCode? kind with
        | none => queued k { kind := 0xFF, tag := tag, body := [0x03] }
        | some q =>
          let r : Request := { kind := q, tag := tag, body := body, crc := crc }
          match k.cache.find? fun e => decide (e.tag = tag ∧ e.crc = crc) with
          | some e => queued { k with counters := { k.counters with replays := bump k.counters.replays } } e.reply
          | none =>
            let j : Link := { k with cache := k.cache.filter fun e => decide (e.tag ≠ tag) }
            if j.inUse.any fun p => decide (p.tag = tag ∧ p.crc = crc) then
              { j with counters := { j.counters with duplicates := bump j.counters.duplicates } }
            else if j.inUse.any fun p => decide (p.tag = tag) then
              queued j { kind := kind + 0x80, tag := tag, body := [0x02] }
            else if j.inbox.length < 8 then { j with inbox := j.inbox ++ [r] }
            else
              queued { j with counters := { j.counters with fullRejects := bump j.counters.fullRejects } }
                { kind := kind + 0x80, tag := tag, body := [0x01] }
    LinkLaw s.link →
      exec (.frameReceived high) s = .next { s with link := after } ∧
      exec (.byteDelivered high) s = .next { s with link := after }

/-- For every request kind, TAG and body of at most 248 bytes: from a running part whose receiver hunts and is not held by a
break, delivering the bytes of the frame on the line (SYNC, LEN, KIND, TAG, body, CRC low byte first) one by one goes on at
every byte, and comes to the state in which the receiver hunts again with its gap timer stopped and exactly that request has
been sorted, its CRC field the frame check of the bytes. No bit of a frame is dropped on the way in. -/
def Obligations.FrameOnTheLineIsReceived : Prop :=
  ∀ (q : ReqKind) (tag : Byte) (body : List Byte) (s : State),
    body.length ≤ 248 → s.phase = .running → s.link.receiver = .hunt → s.link.breakHeld = false → s.link.gapLeft = none →
    (Frame.line { kind := q.code, tag := tag, body := body }).foldlM
        (fun t b => match exec (.byteDelivered b) t with | .next u => some u | _ => none) s =
      some (s.sortCache
        { kind := q, tag := tag, body := body
          crc := frameCrc (BitVec.ofNat 8 (body.length + 2) :: q.code :: tag :: body) })

/-- The register starts at FFFFh; a byte is combined into the upper eight bits and eight shifts follow, each combining 1021h
when the bit shifted out is 1; the nine bytes 31h to 39h give 29B1h and the byte 00h gives E1F0h; every frame the part builds
carries this check over LEN, KIND, TAG and body, low byte first. -/
def Obligations.FrameCheckValues : Prop :=
  frameCrc [] = 0xFFFF ∧
    (∀ bs b, frameCrc (bs ++ [b]) = Nat.repeat crcShift 8 (frameCrc bs ^^^ (b.setWidth 16 <<< 8))) ∧
    (∀ r : Crc, crcShift r = if r.msb then (r <<< 1) ^^^ 0x1021 else r <<< 1) ∧
    frameCrc [0x31, 0x32, 0x33, 0x34, 0x35, 0x36, 0x37, 0x38, 0x39] = 0x29B1 ∧ frameCrc [0x00] = 0xE1F0 ∧
    (∀ f : Frame, ∃ low high : Byte,
      f.line = 0xA5 :: BitVec.ofNat 8 (f.body.length + 2) :: f.kind :: f.tag :: (f.body ++ [low, high]) ∧
      low.toNat + 256 * high.toNat =
        (frameCrc (BitVec.ofNat 8 (f.body.length + 2) :: f.kind :: f.tag :: f.body)).toNat)

/-- For every request row c and its kind: when the engine may take the oldest inbox request r and r is of that kind, a body
of a length not allowed for the kind is answered LENGTH; a body of an allowed length with an unused bit set is answered
FIELD; the reply is queued and cached as for any executed request, and nothing else changes. When the engine may not take a
request, or the oldest inbox request is of another kind, the row changes nothing (the model's choice, log entry 4). For every
kind the allowed body lengths are the numbers of the table of R201, and the bits the engine requires to be 0 are the bits of
the kind's flags or options byte that its layout does not name. -/
def Obligations.RequestBodiesAreChecked : Prop :=
  (∀ (c : Instr) (k : ReqKind) (s : State), commandKind c = some k →
    (∀ r rest, Takes s r rest → r.kind = k → k.lengthOk r.body.length = false →
      exec c s = .next { s with link := replied s.link r rest .length [] }) ∧
    (∀ r rest, Takes s r rest → r.kind = k → k.lengthOk r.body.length = true → k.unusedClear r.body = false →
      exec c s = .next { s with link := replied s.link r rest .field [] }) ∧
    ((∀ r rest, Takes s r rest → r.kind ≠ k) → exec c s = .next s)) ∧
    ((∀ n : Nat,
      (ReqKind.lengthOk .hello n = true ↔ n = 0) ∧ (ReqKind.lengthOk .engineReset n = true ↔ n = 0) ∧
      (∀ k ∈ [ReqKind.linkStatus, .fenceRead, .slotArm, .slotHold, .slotResume, .slotCancel, .slotQuery, .trigRead, .reportGate],
        k.lengthOk n = true ↔ n = 1) ∧
      (∀ k ∈ [ReqKind.legRead, .slotStart, .portQuery, .reportAck, .reportReplay], k.lengthOk n = true ↔ n = 2) ∧
      (ReqKind.lengthOk .bufRead n = true ↔ n = 3) ∧
      (∀ k ∈ [ReqKind.legLink, .portSetup], k.lengthOk n = true ↔ n = 4) ∧
      (ReqKind.lengthOk .trigSet n = true ↔ n = 6) ∧ (ReqKind.lengthOk .slotSetup n = true ↔ n = 8) ∧
      (ReqKind.lengthOk .fenceSet n = true ↔ n = 10) ∧ (ReqKind.lengthOk .legLoad n = true ↔ n = 31 ∨ n = 35) ∧
      (ReqKind.lengthOk .bufWrite n = true ↔ ∃ w, 1 ≤ w ∧ w ≤ 60 ∧ n = 2 + 4 * w)) ∧
    (∀ (k : ReqKind) (b : List Byte), k.unusedClear b = true ↔
      match k with
      | .linkStatus | .reportGate => (byteAt b 0).toNat < 2
      | .fenceSet | .portQuery => (byteAt b 1).toNat < 2
      | .trigSet => (byteAt b 1).toNat < 4
      | .slotSetup => (byteAt b 2).toNat < 8
      | .portSetup => (byteAt b 3).toNat < 2
      | .legLoad => (byteAt b 30).toNat < 8
      | _ => True))

/-- HELLO with its empty body, as the oldest inbox request, is answered OK with VENDOR 43h, PART 3216h, REVISION 01h, SLOTS
16, LEGS 512, PORTS 8, TRIGGERS 32, FENCES 8, WORDS 65,536, REPORTS 32, INBOX 8 and the rate code, each in the bytes of its
layout; nothing but the link's inbox, replies and cache changes. One with a body is answered LENGTH. Where the oldest inbox
request is of another kind, HELLO changes nothing (the model's choice, log entry 4). -/
def Obligations.HelloAnswersTheIdentification : Prop :=
  ∀ (s : State) (r : Request) (rest : List Request), Takes s r rest →
    (r.kind = .hello → r.body = [] →
      exec .hello s =
        .next { s with
          link := replied s.link r rest .ok
            [0x43, 0x16, 0x32, 0x01, 0x10, 0x00, 0x02, 0x08, 0x20, 0x08, 0x00, 0x00, 0x01, 0x00, 0x20, 0x08,
            BitVec.ofNat 8 s.link.rate.toNat] }) ∧
    (r.kind = .hello → r.body ≠ [] → exec .hello s = .next { s with link := replied s.link r rest .length [] }) ∧
    (r.kind ≠ .hello → exec .hello s = .next s)

/-- LINK_STATUS is answered OK with the eight counters, two bytes each, least significant first, as they stand when it is
taken; with CLEAR set every counter is 0 afterwards, with CLEAR clear they are unchanged; nothing else changes. A port above
7 is refused with RANGE. Otherwise the reply is OK and carries DIRECTION, THRESHOLD, the byte of ENABLE, REQUEST, OVERRUN,
UNDERRUN and BOUND-SLOT present, OCCUPANCY, TENTATIVE, COMMITTED, STAGED, the two alarm counts, and the bound slot's number
when one is bound, all as they stand when it is taken. With CLEAR set the port's alarm flags are clear and its counters 0
afterwards; nothing else changes. -/
def Obligations.QueriesReadThenClear : Prop :=
  (∀ (s : State) (r : Request) (rest : List Request) (clear : Bool), Takes s r rest → r.kind = .linkStatus →
    r.body = [if clear then 0x01 else 0x00] →
    exec .linkStatus s =
      .next { s with link :=
        { replied s.link r rest .ok
            (leBytes 2 s.link.counters.crcErrors ++ leBytes 2 s.link.counters.lengthErrors
              ++ leBytes 2 s.link.counters.gapTimeouts ++ leBytes 2 s.link.counters.breaks
              ++ leBytes 2 s.link.counters.fullRejects ++ leBytes 2 s.link.counters.duplicates
              ++ leBytes 2 s.link.counters.replays ++ leBytes 2 s.link.counters.replyDrops) with
          counters :=
            if clear then
              { crcErrors := 0, lengthErrors := 0, gapTimeouts := 0, breaks := 0, fullRejects := 0, duplicates := 0
                replays := 0, replyDrops := 0 }
            else s.link.counters } }) ∧
    (∀ (s : State) (r : Request) (rest : List Request) (n : Nat) (clear : Bool),
    Takes s r rest → r.kind = .portQuery → n < 256 → r.body = leBytes 1 n ++ [if clear then 0x01 else 0x00] →
    (8 ≤ n → exec .portQuery s = .next { s with link := replied s.link r rest .range [] }) ∧
    (∀ p : PortIx, p.val = n → ∀ bound : Option SlotIx,
      (∀ i ∈ bound, (s.slot i).boundTo p = true ∧ ∀ j, j < i → (s.slot j).boundTo p = false) →
      (bound = none → ∀ i, (s.slot i).boundTo p = false) →
      exec .portQuery s =
        .next { s with
          link := replied s.link r rest .ok
            ([match (s.port p).direction with | .inward => 0x00 | .outward => 0x01] ++ leBytes 1 (s.port p).threshold
              ++ [BitVec.ofNat 8 ((if (s.port p).enable then 1 else 0) + (if (s.port p).condition then 2 else 0)
                + (if (s.port p).overrun then 4 else 0) + (if (s.port p).underrun then 8 else 0)
                + (if bound.isSome then 16 else 0))]
              ++ leBytes 1 (s.port p).occupancy ++ leBytes 1 (s.port p).tentative ++ leBytes 1 (s.port p).committed
              ++ leBytes 1 (s.port p).staged ++ leBytes 2 (s.port p).overrunCount ++ leBytes 2 (s.port p).underrunCount
              ++ (match bound with | none => [] | some i => leBytes 1 i.val))
          ports :=
            if clear then
              s.ports.set p { s.port p with overrun := false, underrun := false, overrunCount := 0, underrunCount := 0 }
            else s.ports }))

/-- With no element in flight ENGINE_RESET completes in its own step: every slot is at its reset values, every pin count 0
with the records kept, the arbiters and the mover at their reset values, every port FIFO empty and the port disabled with its
direction, threshold and alarms kept and the rest of a word under way driven as zeros, the last word driven standing for that
one whether or not its frame has ended (log entry 12), the events discarded; its OK reply is the last queued and the cache's
only entry; the report queue holds RESET-DONE with cause REQUEST as SEQ 0. Buffer words, fences, trigger entries, the other
inbox requests, the replies queued before, the receiver, transmitter, counters and rate are unchanged. -/
def Obligations.EngineResetAtRest : Prop :=
  ∀ (s : State) (r : Request) (rest : List Request), Takes s r rest → r.kind = .engineReset → r.body = [] →
    (∀ i snap, s.arb.mover ≠ .busy i snap) →
    exec .engineReset s =
      .next
        { s with
          slots := Vector.replicate 16 Slot.initial
          legs := s.legs.map fun e => { e with pins := 0 }
          arb := { pointers := Vector.replicate 8 15, stack := [], mover := .idle }
          ports := s.ports.map fun p =>
            { p with
              enable := false, fifo := [], tentative := 0, staged := 0, driven := p.driven.map fun _ => (0 : Word) }
          bufArb := { grant := none, waiting := none, last := .link, fencesAtGrant := none, fencesReplaced := [] }
          events := []
          reports :=
            { queue := [{ seq := 0, body := .resetDone .request, sent := false }], nextSeq := 1, sendPos := 0, gateOpen := true
              lost := 0 }
          link := { s.link with
            inbox := rest
            replies := s.link.replies ++ [replyFrame r .ok []]
            cache := [{ tag := r.tag, crc := r.crc, reply := replyFrame r .ok [] }] } }

/-- With a slot ACTIVE, ENGINE_RESET holds the request engine and changes nothing else. While it waits, the completion of the
element in flight, last of its burst or not, moved or failed, ends with every slot at its reset values, no pins, arbiters and
ports reset, no event left, the fences, trigger entries and leg records as before, the reset's OK reply queued and its cache
entry the only one, and RESET-DONE with cause REQUEST as SEQ 0 the only report. The buffer memory changes at most at the
element's destination word. -/
def Obligations.EngineResetWaitsForTheElement : Prop :=
  (∀ (s : State) (r : Request) (rest : List Request) (i : SlotIx) (snap : Snapshot),
      Takes s r rest → r.kind = .engineReset → r.body = [] → s.arb.mover = .busy i snap →
      exec .engineReset s = .next { s with link := waiting s.link r rest .engineReset s.reports.queue.length }) ∧
    (∀ (s t : State) (e : Executing) (i : SlotIx) (l : LegIx) (r : LegRecord) (snap : Snapshot) (o : ElementOrder),
      InFlight s i l r snap → s.link.executing = some e → e.waits = .engineReset → exec (.element o) s = .next t →
      t.slots = Vector.replicate 16 Slot.initial ∧
      (∀ m, t.leg m = { record := (s.leg m).record, pins := 0 }) ∧
      t.arb = { pointers := Vector.replicate 8 15, stack := [], mover := .idle } ∧
      t.bufArb = { grant := none, waiting := none, last := .link, fencesAtGrant := none, fencesReplaced := [] } ∧
      (∀ p, (t.port p).fifo = [] ∧ (t.port p).tentative = 0 ∧ (t.port p).staged = 0 ∧ (t.port p).enable = false ∧
        (t.port p).direction = (s.port p).direction ∧ (t.port p).threshold = (s.port p).threshold ∧
        (t.port p).overrun = (s.port p).overrun ∧ (t.port p).underrun = (s.port p).underrun ∧
        (t.port p).overrunCount = (s.port p).overrunCount ∧ (t.port p).underrunCount = (s.port p).underrunCount) ∧
      t.events = [] ∧ t.fences = s.fences ∧ t.triggers = s.triggers ∧
      t.reports =
        { queue := [{ seq := 0, body := .resetDone .request, sent := false }], nextSeq := 1, sendPos := 0, gateOpen := true
          lost := 0 } ∧
      t.link = { s.link with
        executing := none
        replies := s.link.replies ++ [replyFrame e.request .ok []]
        cache := [{ tag := e.request.tag, crc := e.request.crc, reply := replyFrame e.request .ok [] }] } ∧
      (t.mem = s.mem ∨ ∃ (p : Path) (w : Word), r.dst = .buffer p ∧ t.mem = memWrite s.mem (s.slot i).dst.toNat (.good w)))

/-- A BUF_WRITE of n words from an address whose last word would pass 65535 is refused with RANGE; a BUF_READ is refused with
FIELD for a COUNT outside 1 to 60, then with RANGE. Otherwise the block becomes the waiting executing request and asks: with
GRANT NONE and no element of a leg with a BUFFER endpoint in flight it is granted at once; against such an element the order
operand decides who is granted and who waits, and when both come together LAST-GRANT does and an element granted so has the
fence table as it stands; with the grant held by the mover the block joins WAITING. Nothing else changes. That the order of
the two asks is the command's operand, where the element has not yet been granted, is the model's choice (log entry 5). -/
def Obligations.HostBlocksAskForTheirGrant : Prop :=
  (∀ (s : State) (r : Request) (rest : List Request) (o : AskOrder) (a : Nat) (ws : List Word),
      Takes s r rest → r.kind = .bufWrite → a < 65536 → 1 ≤ ws.length → ws.length ≤ 60 →
      r.body = leBytes 2 a ++ ws.flatMap wordBytes →
      exec (.bufWrite o) s =
        if a + ws.length ≤ 65536 then
          .next { s with
            link := waiting s.link r rest .hostBlock s.reports.queue.length
            bufArb := (s.blockAsks o).bufArb }
        else .next { s with link := replied s.link r rest .range [] }) ∧
    (∀ (s : State) (r : Request) (rest : List Request) (o : AskOrder) (a n : Nat),
      Takes s r rest → r.kind = .bufRead → a < 65536 → n < 256 → r.body = leBytes 2 a ++ leBytes 1 n →
      exec (.bufRead o) s =
        if n = 0 ∨ 60 < n then .next { s with link := replied s.link r rest .field [] }
        else if 65536 < a + n then .next { s with link := replied s.link r rest .range [] }
        else
          .next { s with
            link := waiting s.link r rest .hostBlock s.reports.queue.length
            bufArb := (s.blockAsks o).bufArb }) ∧
    (∀ (s : State) (o : AskOrder),
      (s.bufArb.grant = none → s.bufferInFlight = false →
        (s.blockAsks o).bufArb = { grant := some .link, waiting := none, last := .link, fencesAtGrant := none, fencesReplaced := [] }) ∧
      (s.bufArb.grant = none → s.bufferInFlight = true →
        (o = .elementFirst →
          (s.blockAsks o).bufArb = { s.bufArb with grant := some .mover, waiting := some .link, last := .mover }) ∧
        (o = .together → s.bufArb.last = .link →
          (s.blockAsks o).bufArb =
            { grant := some .mover, waiting := some .link, last := .mover, fencesAtGrant := some s.fences, fencesReplaced := [] })) ∧
      (s.bufArb.grant = none → s.bufferInFlight = true →
        o = .blockFirst ∨ (o = .together ∧ s.bufArb.last = .mover) →
        (s.blockAsks o).bufArb =
          { grant := some .link, waiting := some .mover, last := .link, fencesAtGrant := none, fencesReplaced := [] }) ∧
      (s.bufArb.grant = some .mover → (s.blockAsks o).bufArb = { s.bufArb with waiting := some .link }))

/-- With the memory list in the canonical form of the model's representation (log entry 10) and the grant held by a waiting
BUF_WRITE of words ws from address a that ends by 65535, HOST_BLOCK_GRANT goes on. If the fence table denies the host no word
of the block, each word of the block is afterwards the good word carried for it, marks cleared, every other buffer word is as
before, and the reply is OK. If it denies one, no word changes and the reply is FENCE with the lowest denied address. The
grant then goes to a waiting element, under the fence table as it stands and with LAST-GRANT MOVER, or to nobody, with LAST-
GRANT LINK. Nothing else changes. -/
def Obligations.HostWriteBlockIsAllOrNothing : Prop :=
  ∀ (s : State) (e : Executing) (a : Addr) (ws : List Word),
    s.phase = .running → s.link.executing = some e → e.waits = .hostBlock → e.request.kind = .bufWrite →
    s.bufArb.grant = some .link → memWf s.mem = true →
    e.request.body = leBytes 2 a.toNat ++ ws.flatMap wordBytes → 1 ≤ ws.length → a.toNat + ws.length ≤ 65536 →
    ∃ t, exec .hostBlockGrant s = .next t ∧
      t = { s with mem := t.mem, link := t.link, bufArb := grantAfterBlock s.fences s.bufArb } ∧
      ((∀ k, k < ws.length → hostMayWrite s.fences (a + BitVec.ofNat 16 k) = true) →
        (∀ b : Addr, t.word b =
          if h : a.toNat ≤ b.toNat ∧ b.toNat < a.toNat + ws.length then .good (ws[b.toNat - a.toNat]'(by omega)) else s.word b) ∧
        t.link = replied s.link e.request s.link.inbox .ok []) ∧
      (∀ k, k < ws.length → hostMayWrite s.fences (a + BitVec.ofNat 16 k) = false →
        (∀ j, j < k → hostMayWrite s.fences (a + BitVec.ofNat 16 j) = true) →
        t.mem = s.mem ∧ t.link = replied s.link e.request s.link.inbox .fence (leBytes 2 (a.toNat + k)))

/-- With the grant held by a waiting BUF_READ of n words from address a that ends by 65535, HOST_BLOCK_GRANT goes on and
changes no word, whatever the fence table holds. If every word of the block is good, the reply is OK with the n words in
address order, least significant byte first; otherwise it is PARITY with the lowest damaged address and no words. The grant
then goes to a waiting element, under the fence table as it stands and with LAST-GRANT MOVER, or to nobody, with LAST-GRANT
LINK. Nothing else changes. -/
def Obligations.HostReadBlockReturnsGoodWords : Prop :=
  ∀ (s : State) (e : Executing) (a : Addr) (n : Nat),
    s.phase = .running → s.link.executing = some e → e.waits = .hostBlock → e.request.kind = .bufRead →
    s.bufArb.grant = some .link → e.request.body = leBytes 2 a.toNat ++ leBytes 1 n → 1 ≤ n → n ≤ 60 →
    a.toNat + n ≤ 65536 →
    (∀ ws : List Word, ws.length = n →
      (∀ k (h : k < ws.length), s.word (a + BitVec.ofNat 16 k) = .good ws[k]) →
      exec .hostBlockGrant s =
        .next { s with
          link := replied s.link e.request s.link.inbox .ok (ws.flatMap wordBytes)
          bufArb := grantAfterBlock s.fences s.bufArb }) ∧
    (∀ k, k < n → s.word (a + BitVec.ofNat 16 k) = .damaged →
      (∀ j, j < k → s.word (a + BitVec.ofNat 16 j) ≠ .damaged) →
      exec .hostBlockGrant s =
        .next { s with
          link := replied s.link e.request s.link.inbox .parity (leBytes 2 (a.toNat + k))
          bufArb := grantAfterBlock s.fences s.bufArb })

/-- An index of 8 or more is refused with RANGE; with a good index, a MOVER-ACCESS above 2, a HOST-ACCESS above 1, a SIZE of
0 or above 65536, or a range past 65535 is refused with FIELD, whatever ENABLED holds; otherwise the entry has the five
fields carried and the reply is OK. No other entry, no word and no slot changes. An element in flight whose grant no earlier
step has fixed is checked against the new table where it is granted after the FENCE-SET, and against the table it would have
met without it where it was granted before; one granted by an earlier step keeps the table of its grant. That ELEMENT's
operand says how many FENCE-SETs came after the grant is the model's choice (log entry 5). An index above 31 is refused with
RANGE; an EVENT above 4, an ACTION above 2 or a SOURCE or TARGET above 15, with FIELD; otherwise the entry has the six fields
carried and the reply is OK. Nothing else changes, in every state of every slot. -/
def Obligations.FenceSetAndTrigSetReplaceTheEntry : Prop :=
  (∀ (s : State) (r : Request) (rest : List Request) (k base size m h : Nat) (en : Bool),
    Takes s r rest → r.kind = .fenceSet → k < 256 → base < 65536 → size < 4294967296 → m < 256 → h < 256 →
    r.body = leBytes 1 k ++ [if en then 0x01 else 0x00] ++ leBytes 2 base ++ leBytes 4 size ++ leBytes 1 m ++ leBytes 1 h →
    (exec .fenceSet s =
      if hk : k < 8 then
        if m ≤ 2 ∧ h ≤ 1 ∧ 1 ≤ size ∧ size ≤ 65536 ∧ base + size ≤ 65536 then
          .next { s with
            link := replied s.link r rest .ok []
            fences := s.fences.set k
              { enabled := en, base := BitVec.ofNat 16 base, size := size
                mover := if m = 0 then .none else if m = 1 then .read else .readWrite
                host := if h = 0 then .readWrite else .read }
            bufArb :=
              if s.bufferInFlight = true ∧ s.bufArb.grant = none then
                { s.bufArb with fencesReplaced := s.fences :: s.bufArb.fencesReplaced }
              else s.bufArb }
        else .next { s with link := replied s.link r rest .field [] }
      else .next { s with link := replied s.link r rest .range [] }) ∧
    (∀ t, exec .fenceSet s = .next t → k < 8 → m ≤ 2 → h ≤ 1 → 1 ≤ size → size ≤ 65536 → base + size ≤ 65536 →
      s.bufferInFlight = true →
      (s.bufArb.fencesAtGrant = none → s.bufArb.grant = none →
        t.elementFences 0 = t.fences ∧ ∀ n, t.elementFences (n + 1) = s.elementFences n) ∧
      (s.bufArb.fencesAtGrant.isSome = true → ∀ n, t.elementFences n = s.elementFences n))) ∧
    (∀ (s : State) (r : Request) (rest : List Request) (k ev src tgt act : Nat) (en one : Bool),
    Takes s r rest → r.kind = .trigSet → k < 256 → ev < 256 → src < 256 → tgt < 256 → act < 256 →
    r.body = leBytes 1 k ++ [BitVec.ofNat 8 ((if en then 1 else 0) + (if one then 2 else 0))] ++ leBytes 1 ev ++ leBytes 1 src
      ++ leBytes 1 tgt ++ leBytes 1 act →
    exec .trigSet s =
      if hk : k < 32 then
        if hf : ev ≤ 4 ∧ src < 16 ∧ tgt < 16 ∧ act ≤ 2 then
          .next { s with
            link := replied s.link r rest .ok []
            triggers := s.triggers.set k
              { enabled := en, oneShot := one
                event :=
                  if ev = 0 then .burstEnd else if ev = 1 then .mark else if ev = 2 then .legEnd
                  else if ev = 3 then .chainEnd else .fault
                source := ⟨src, hf.2.1⟩, target := ⟨tgt, hf.2.2.1⟩
                action := if act = 0 then .start else if act = 1 then .arm else .hold } }
        else .next { s with link := replied s.link r rest .field [] }
      else .next { s with link := replied s.link r rest .range [] })

/-- An index above 7 is refused with RANGE. Otherwise the reply is OK and carries ENABLED in bit 0 of its byte, BASE in two
bytes, SIZE in four, MOVER-ACCESS and HOST-ACCESS of the entry as they stand, whatever the other entries hold; nothing but
the link changes. -/
def Obligations.FenceReadReturnsTheEntry : Prop :=
  ∀ (s : State) (r : Request) (rest : List Request) (k : Nat),
    Takes s r rest → r.kind = .fenceRead → k < 256 → r.body = leBytes 1 k →
    exec .fenceRead s =
      if hk : k < 8 then
        .next { s with
          link := replied s.link r rest .ok
           ([if (s.fence ⟨k, hk⟩).enabled then 0x01 else 0x00] ++ leBytes 2 (s.fence ⟨k, hk⟩).base.toNat
            ++ leBytes 4 (s.fence ⟨k, hk⟩).size
            ++ [match (s.fence ⟨k, hk⟩).mover with | .none => 0x00 | .read => 0x01 | .readWrite => 0x02]
            ++ [match (s.fence ⟨k, hk⟩).host with | .readWrite => 0x00 | .read => 0x01]) }
      else .next { s with link := replied s.link r rest .range [] }

/-- For every fence table and word: when entry k is enabled and covers the word and no entry below k does, the mover may read
it unless k gives NONE, may write it exactly when k gives READ-WRITE, and the host may write it exactly when k gives READ-
WRITE; when no enabled entry covers it, all are allowed. The host may read every word. -/
def Obligations.LowestEnabledFenceGoverns : Prop :=
  ∀ (fs : Vector Fence 8) (a : Addr),
    let covers (k : FenceIx) : Prop :=
      (fs.get k).enabled = true ∧ (fs.get k).base.toNat ≤ a.toNat ∧ a.toNat < (fs.get k).base.toNat + (fs.get k).size
    (∀ k, covers k → (∀ j, j < k → ¬ covers j) →
      (moverMayRead fs a = true ↔ (fs.get k).mover ≠ .none) ∧ (moverMayWrite fs a = true ↔ (fs.get k).mover = .readWrite) ∧
        (hostMayWrite fs a = true ↔ (fs.get k).host = .readWrite)) ∧
    ((∀ k, ¬ covers k) → moverMayRead fs a = true ∧ moverMayWrite fs a = true ∧ hostMayWrite fs a = true) ∧
    hostMayRead fs a = true

/-- The body carries the leg index and the 29 or 33 bytes of a record. An index of 512 or more is refused with RANGE; a
record the check of R15 refuses, with FIELD; an entry with pins, with IN-USE; otherwise the entry holds exactly the record
the bytes encode and stays unpinned, and the reply is OK. The record is the one whose encoding the bytes are, for every
record with BURST 1 to 256, COUNT 1 to 65535, MARK below COUNT, not both endpoints PORT and EXPECT only with DIGEST. No other
entry and no other block changes. -/
def Obligations.LegLoadStoresALegalRecord : Prop :=
  (∀ (s : State) (r : Request) (rest : List Request) (l : LegIx) (rec : LegRecord),
      Takes s r rest → r.kind = .legLoad → r.body = leBytes 2 l.val ++ rec.bytes →
      1 ≤ rec.burst → rec.burst ≤ 256 → 1 ≤ rec.count → rec.count ≤ 65535 → rec.mark < rec.count →
      portToPort rec.src rec.dst = false → (rec.expect.isSome = true → rec.digest = true) →
      exec .legLoad s =
        if (s.leg l).pins = 0 then
          .next { s with
            link := replied s.link r rest .ok []
            legs := s.legs.set l { record := some rec, pins := (s.leg l).pins } }
        else .next { s with link := replied s.link r rest .inUse [] }) ∧
    (∀ (s : State) (r : Request) (rest : List Request) (n : Nat) (bytes : List Byte),
      Takes s r rest → r.kind = .legLoad → n < 65536 → bytes.length = 29 ∨ bytes.length = 33 → (byteAt bytes 28).toNat < 8 →
      r.body = leBytes 2 n ++ bytes →
      (512 ≤ n → exec .legLoad s = .next { s with link := replied s.link r rest .range [] }) ∧
      (n < 512 →
        256 < fieldAt bytes 20 2 ∨ fieldAt bytes 20 2 = 0 ∨ fieldAt bytes 22 2 = 0 ∨ fieldAt bytes 22 2 ≤ fieldAt bytes 24 2 ∨
          16 < fieldAt bytes 9 1 ∨ 16 < fieldAt bytes 17 1 ∨ 7 < fieldAt bytes 1 1 ∨ 7 < fieldAt bytes 13 1 ∨
          2 < fieldAt bytes 0 1 ∨ 1 < fieldAt bytes 12 1 ∨ (fieldAt bytes 0 1 = 1 ∧ fieldAt bytes 12 1 = 1) ∨
          (fieldAt bytes 0 1 ≠ 0 ∧
            (fieldAt bytes 2 2 ≠ 0 ∨ fieldAt bytes 8 1 ≠ 0 ∨ fieldAt bytes 9 1 ≠ 0 ∨ fieldAt bytes 10 2 ≠ 0)) ∨
          (fieldAt bytes 12 1 ≠ 0 ∧
            (fieldAt bytes 14 2 ≠ 0 ∨ fieldAt bytes 16 1 ≠ 0 ∨ fieldAt bytes 17 1 ≠ 0 ∨ fieldAt bytes 18 2 ≠ 0)) ∨
          (fieldAt bytes 0 1 ≠ 1 ∧ fieldAt bytes 1 1 ≠ 0) ∨ (fieldAt bytes 0 1 ≠ 2 ∧ fieldAt bytes 4 4 ≠ 0) ∨
          (fieldAt bytes 12 1 ≠ 1 ∧ fieldAt bytes 13 1 ≠ 0) ∨
          (bytes.length = 33 ∧ (byteAt bytes 28).getLsbD 2 = false) ∨
          (511 < fieldAt bytes 26 2 ∧ fieldAt bytes 26 2 ≠ 65535) →
        exec .legLoad s = .next { s with link := replied s.link r rest .field [] }))

/-- An index above 511 is refused with RANGE. Otherwise the reply is OK and carries 00h and the pin count of a FREE entry, or
01h, the pin count and the record's bytes of a LOADED one, its current NEXT and, when it holds one, its EXPECT included;
nothing but the link changes. -/
def Obligations.LegReadReturnsTheEntry : Prop :=
  ∀ (s : State) (r : Request) (rest : List Request) (n : Nat),
    Takes s r rest → r.kind = .legRead → n < 65536 → r.body = leBytes 2 n →
    exec .legRead s =
      if hn : n < 512 then
        .next { s with
          link := replied s.link r rest .ok
           (match (s.leg ⟨n, hn⟩).record with
            | none => [0x00] ++ leBytes 1 (s.leg ⟨n, hn⟩).pins
            | some rec => [0x01] ++ leBytes 1 (s.leg ⟨n, hn⟩).pins ++ (rec.src.bytes ++ rec.dst.bytes ++ leBytes 2 rec.burst
                ++ leBytes 2 rec.count ++ leBytes 2 rec.mark
                ++ (match rec.next with | none => [0xFF, 0xFF] | some m => leBytes 2 m.val)
                ++ [BitVec.ofNat 8 ((if rec.endReport then 1 else 0) + (if rec.endHold then 2 else 0) + (if rec.digest then 4 else 0))]
                ++ (match rec.expect with | none => [] | some w => wordBytes w))) }
      else .next { s with link := replied s.link r rest .range [] }

/-- An index above 511 is refused with RANGE; a new NEXT that is neither 0 to 511 nor NONE, with FIELD; a FREE entry, with
STATE. Otherwise the entry's NEXT is the new value, its other fields and its pin count are as before, and the reply is OK
with the number of slots whose current leg it is. Nothing else changes. -/
def Obligations.LegLinkReplacesNextAlone : Prop :=
  ∀ (s : State) (r : Request) (rest : List Request) (n m : Nat),
    Takes s r rest → r.kind = .legLink → n < 65536 → m < 65536 → r.body = leBytes 2 n ++ leBytes 2 m →
    exec .legLink s =
      if hn : n < 512 then
        if m < 512 ∨ m = 65535 then
          match (s.leg ⟨n, hn⟩).record with
          | none => .next { s with link := replied s.link r rest .state [] }
          | some rec =>
            .next { s with
              link := replied s.link r rest .ok
                (leBytes 1 ((List.finRange 16).filter fun i => decide ((s.slot i).currentLeg = some ⟨n, hn⟩)).length)
              legs := s.legs.set n
                { record := some { rec with next := if hm : m < 512 then some ⟨m, hm⟩ else none }, pins := (s.leg ⟨n, hn⟩).pins } }
        else .next { s with link := replied s.link r rest .field [] }
      else .next { s with link := replied s.link r rest .range [] }

/-- A slot number above 15 is refused with RANGE; a PRIORITY above 7, a PORT neither 0 to 7 nor FFh or a FIRST-LEG neither 0
to 511 nor FFFFh, with FIELD; a slot that is neither IDLE nor DONE, with STATE; a port another slot outside IDLE is bound to,
with IN-USE. Otherwise the seven fields are those carried, the slot's state and every other field are as before, and the
reply is OK. Nothing else changes. -/
def Obligations.SlotSetupWritesTheSevenFields : Prop :=
  ∀ (s : State) (r : Request) (rest : List Request) (n pr port pace first : Nat) (yields preempt run : Bool),
    Takes s r rest → r.kind = .slotSetup → n < 256 → pr < 256 → port < 256 → pace < 65536 → first < 65536 →
    r.body = leBytes 1 n ++ leBytes 1 pr
      ++ [BitVec.ofNat 8 ((if yields then 1 else 0) + (if preempt then 2 else 0) + (if run then 4 else 0))]
      ++ leBytes 1 port ++ leBytes 2 pace ++ leBytes 2 first →
    exec .slotSetup s =
      if hn : n < 16 then
        if hf : pr < 8 ∧ (port < 8 ∨ port = 255) ∧ (first < 512 ∨ first = 65535) then
          if (s.slot ⟨n, hn⟩).standing = .idle ∨ (s.slot ⟨n, hn⟩).standing = .done then
            if ∃ (p : PortIx) (j : SlotIx), p.val = port ∧ j.val ≠ n ∧ (s.slot j).boundTo p = true then
              .next { s with link := replied s.link r rest .inUse [] }
            else
              .next { s with
                link := replied s.link r rest .ok []
                slots := s.slots.set n
                  { s.slot ⟨n, hn⟩ with
                    setup :=
                      { priority := ⟨pr, hf.1⟩, yields := yields, preempt := preempt
                        port := if hp : port < 8 then some ⟨port, hp⟩ else none
                        runLeg := run, pace := pace
                        firstLeg := if hl : first < 512 then some ⟨first, hl⟩ else none } } }
          else .next { s with link := replied s.link r rest .state [] }
        else .next { s with link := replied s.link r rest .field [] }
      else .next { s with link := replied s.link r rest .range [] }

/-- A slot number above 15 is refused with RANGE; a slot neither IDLE nor DONE, with STATE; FIRST-LEG NONE, with LEG; a port
held by another slot outside IDLE, with IN-USE; a leg that is FREE, does not match the binding or does not suit the port's
setup, with LEG. Otherwise the slot enters the leg: CURRENT-LEG, SRC, DST, REMAINING from the record, ELEMENT 0, the
accumulator FFFFFFFFh, LEG-RUN clear, CREDITS 0, HOLD-REQUESTED clear, ARMED, the leg's pin count one more; eligibility is
evaluated, and the reply is OK. For a slot with no PORT the evaluation changes nothing, so it stays ARMED and nothing else
changes. -/
def Obligations.SlotArmEntersTheFirstLeg : Prop :=
  ∀ (s : State) (r : Request) (rest : List Request) (n : Nat),
    Takes s r rest → r.kind = .slotArm → n < 256 → r.body = leBytes 1 n →
    (16 ≤ n → exec .slotArm s = .next { s with link := replied s.link r rest .range [] }) ∧
    (∀ i : SlotIx, i.val = n →
      ((s.slot i).standing ≠ .idle → (s.slot i).standing ≠ .done →
        exec .slotArm s = .next { s with link := replied s.link r rest .state [] }) ∧
      ((s.slot i).standing = .idle ∨ (s.slot i).standing = .done →
        ((s.slot i).setup.firstLeg = none → exec .slotArm s = .next { s with link := replied s.link r rest .leg [] }) ∧
        (∀ l : LegIx, (s.slot i).setup.firstLeg = some l →
          ((∃ (p : PortIx) (j : SlotIx), (s.slot i).setup.port = some p ∧ j ≠ i ∧ (s.slot j).boundTo p = true) →
            exec .slotArm s = .next { s with link := replied s.link r rest .inUse [] }) ∧
          ((∀ (p : PortIx) (j : SlotIx), (s.slot i).setup.port = some p → j ≠ i → (s.slot j).boundTo p = false) →
            (s.legCheck (s.slot i).setup.port l = false →
              exec .slotArm s = .next { s with link := replied s.link r rest .leg [] }) ∧
            (∀ rec, (s.leg l).record = some rec → s.legCheck (s.slot i).setup.port l = true →
              let armed : State :=
                { s with
                  slots := s.slots.set i
                    { s.slot i with
                      standing := .inLeg l .armed, src := rec.srcAddr, dst := rec.dstAddr, remaining := rec.count, element := 0
                      digest := 0xFFFFFFFF, legRun := false, credits := 0, holdRequested := false }
                  legs := s.legs.set l { record := some rec, pins := (s.leg l).pins + 1 } }
              exec .slotArm s = .next { armed.evaluate i with link := replied s.link r rest .ok [] } ∧
              ((s.slot i).setup.port = none → armed.evaluate i = armed))))))

/-- For every state, leg and PORT: a FREE entry fails. With no PORT a LOADED leg passes exactly when neither endpoint is
PORT. With PORT p it passes exactly when one endpoint names p, the port is enabled, its direction is IN for a source and OUT
for a destination, and BURST does not exceed THRESHOLD. This holds for every record with at most one port endpoint, which is
every record LEG_LOAD stores. For every port: inbound, OCCUPANCY is the FIFO's words and the condition is true exactly when
the port is enabled and OCCUPANCY is at least THRESHOLD; outbound, COMMITTED is the FIFO's words less the staged ones and the
condition is true exactly when the port is enabled and 32 less committed and staged words is at least THRESHOLD. -/
def Obligations.LegCheckAndRequestCondition : Prop :=
  (∀ (s : State) (l : LegIx),
    ((s.leg l).record = none → ∀ port, s.legCheck port l = false) ∧
    (∀ rec, (s.leg l).record = some rec → portToPort rec.src rec.dst = false →
      (s.legCheck none l = true ↔ (∀ p, rec.src ≠ .port p) ∧ ∀ p, rec.dst ≠ .port p) ∧
      (∀ p, s.legCheck (some p) l = true ↔
        (s.port p).enable = true ∧ rec.burst ≤ (s.port p).threshold ∧
          ((rec.src = .port p ∧ (s.port p).direction = .inward) ∨ (rec.dst = .port p ∧ (s.port p).direction = .outward))))) ∧
    (∀ p : Port,
    (p.direction = .inward →
      p.occupancy = p.fifo.length ∧ p.committed = 0 ∧
        (p.condition = true ↔ p.enable = true ∧ p.threshold ≤ p.fifo.length)) ∧
    (p.direction = .outward →
      p.occupancy = 0 ∧ p.committed = p.fifo.length - p.staged ∧
        (p.condition = true ↔ p.enable = true ∧ p.threshold ≤ 32 - (p.fifo.length - p.staged) - p.staged)))

/-- The evaluation of a slot that is not ARMED, or is ARMED without credits, running leg or a true request condition, changes
nothing. An eligible ARMED slot becomes READY and nothing else changes when the mover is not idle. When it is idle the slot
becomes ACTIVE: the pointer of its level names it, its snapshot holds SRC, DST and the digest, and the burst start uses one
credit unless the slot is bound or runs a leg whose LEG-RUN is set, setting LEG-RUN for a RUN-LEG slot. Its element 0 joins
WAITING when its leg uses the buffer and a host block holds the grant; with the grant free its ask and grant are placed by a
later step, which is the model's choice (log entry 5), and the buffer arbiter is as before. Nothing else changes. -/
def Obligations.EligibilityMakesReadyAndGrantsTheIdleMover : Prop :=
  ∀ (s : State) (i : SlotIx),
    let x := s.slot i
    let eligible : Prop :=
      match x.setup.port with
      | none => 0 < x.credits ∨ x.legRun = true
      | some p => (s.port p).condition = true
    ((∀ l, x.standing ≠ .inLeg l .armed) → s.evaluate i = s) ∧
    (∀ l, x.standing = .inLeg l .armed →
      (¬ eligible → s.evaluate i = s) ∧
      (eligible → s.arb.mover ≠ .idle → s.evaluate i = s.setLegState i l .ready) ∧
      (eligible → s.arb.mover = .idle →
        let uses : Bool := x.setup.port.isNone && !(x.setup.runLeg && x.legRun)
        let sets : Bool := x.setup.port.isNone && x.setup.runLeg && !x.legRun
        let t := s.evaluate i
        t = { s with slots := t.slots, arb := t.arb, bufArb := t.bufArb } ∧
        t.arb =
          { s.arb with
            pointers := s.arb.pointers.set x.setup.priority i
            mover := .busy i { src := x.src, dst := x.dst, digest := x.digest, creditUsed := uses, runSet := sets } } ∧
        t.slots = s.slots.set i
          { x with
            standing := .inLeg l .active
            credits := if uses then x.credits - 1 else x.credits
            legRun := if sets then true else x.legRun } ∧
        (∀ r, (s.leg l).record = some r →
          t.bufArb =
            if r.usesBuffer = true ∧ s.bufArb.grant = some .link then { s.bufArb with waiting := some .mover } else s.bufArb) ∧
        ((s.leg l).record = none → t.bufArb = s.bufArb)))

/-- A slot number above 15 is refused with RANGE; n outside 1 to 15, with FIELD; a slot bound to a port, with MODE; an IDLE
or DONE slot, with STATE; CREDITS with the outstanding credit and n above 15, with RANGE. Otherwise n is added, whatever the
state; in ARMED eligibility is then evaluated, in every other state nothing else changes; the reply is OK with the sum. That
the reply carries the sum before an immediate grant uses a credit is deduced from the example of chapter 11 (log entry 8). -/
def Obligations.SlotStartAddsCreditsWithinTheLimit : Prop :=
  ∀ (s : State) (r : Request) (rest : List Request) (n c : Nat),
    Takes s r rest → r.kind = .slotStart → n < 256 → c < 256 → r.body = leBytes 1 n ++ leBytes 1 c →
    exec .slotStart s =
      if hn : n < 16 then
        let i : SlotIx := ⟨n, hn⟩
        if 1 ≤ c ∧ c ≤ 15 then
          if (s.slot i).isBound then .next { s with link := replied s.link r rest .mode [] }
          else if (s.slot i).standing = .idle ∨ (s.slot i).standing = .done then
            .next { s with link := replied s.link r rest .state [] }
          else if 15 < (s.slot i).credits + s.outstanding i + c then
            .next { s with link := replied s.link r rest .range [] }
          else
            .next { State.evaluate { s with slots := s.slots.set i { s.slot i with credits := (s.slot i).credits + c } } i with
              link := replied s.link r rest .ok (leBytes 1 ((s.slot i).credits + c)) }
        else .next { s with link := replied s.link r rest .field [] }
      else .next { s with link := replied s.link r rest .range [] }

/-- A slot number above 15 is refused with RANGE. In ARMED, READY or PACED the slot becomes HELD in its leg, everything else
of it kept, and a HELD report with its leg and REMAINING reaches the queue; in ACTIVE or SUSPENDED HOLD-REQUESTED is set; in
HELD nothing changes; each is answered OK. In IDLE, DONE or FAULTED it is refused with STATE. Nothing else changes. -/
def Obligations.SlotHoldActsByTheState : Prop :=
  ∀ (s : State) (r : Request) (rest : List Request) (n : Nat),
    Takes s r rest → r.kind = .slotHold → n < 256 → r.body = leBytes 1 n →
    exec .slotHold s =
      if hn : n < 16 then
        let i : SlotIx := ⟨n, hn⟩
        match (s.slot i).standing with
        | .inLeg l .armed | .inLeg l .ready | .inLeg l (.paced _) =>
          .next { s with
            link := replied s.link r rest .ok []
            slots := s.slots.set i { s.slot i with standing := .inLeg l .held }
            reports := s.reports.take (.held i l (s.slot i).remaining) }
        | .inLeg _ .active | .inLeg _ .suspended =>
          .next { s with
            link := replied s.link r rest .ok []
            slots := s.slots.set i { s.slot i with holdRequested := true } }
        | .inLeg _ .held => .next { s with link := replied s.link r rest .ok [] }
        | .idle | .done | .inLeg _ (.faulted _) => .next { s with link := replied s.link r rest .state [] }
      else .next { s with link := replied s.link r rest .range [] }

/-- A slot number above 15 is refused with RANGE. A HELD slot becomes ARMED with eligibility evaluated. An ACTIVE or
SUSPENDED slot with HOLD-REQUESTED set has it cleared; with it clear, STATE. FAULTED with FENCE-READ, FENCE-WRITE or PARITY:
ARMED with eligibility evaluated when the current leg passes the leg check, otherwise unchanged with reply LEG. FAULTED with
DIGEST in a LOADED leg: the LEG-END report with COUNT and final digest where the leg asks for them, the LEG-END event, then
step 3 of leg-end processing as no commit; with LEG, step 3 alone. Each OK carries the state the slot then is in. IDLE, DONE,
ARMED, READY, PACED: STATE. Nothing but what the resume reaches changes. -/
def Obligations.SlotResumeActsByTheState : Prop :=
  (∀ (s : State) (r : Request) (rest : List Request) (n : Nat),
    Takes s r rest → r.kind = .slotResume → n < 256 → r.body = leBytes 1 n →
    (16 ≤ n → exec .slotResume s = .next { s with link := replied s.link r rest .range [] }) ∧
    (∀ i : SlotIx, i.val = n →
      let ok (t : State) : Host.Outcome State Fault Refusal :=
        .next { t with link := replied s.link r rest .ok [(t.slot i).standing.code] }
      let no (st : Status) : Host.Outcome State Fault Refusal := .next { s with link := replied s.link r rest st [] }
      (∀ l, (s.slot i).standing = .inLeg l .held → exec .slotResume s = ok ((s.setLegState i l .armed).evaluate i)) ∧
      ((s.slot i).isActive = true ∨ (s.slot i).isSuspended = true →
        exec .slotResume s =
          if (s.slot i).holdRequested then ok (s.updSlot i fun x => { x with holdRequested := false }) else no .state) ∧
      (∀ l f, (s.slot i).standing = .inLeg l (.faulted f) → f.cause.resumePoint = .burst →
        exec .slotResume s =
          if s.legCheck (s.slot i).setup.port l then ok ((s.setLegState i l .armed).evaluate i) else no .leg) ∧
      ((s.slot i).standing = .idle ∨ (s.slot i).standing = .done ∨ (s.slot i).isArmed = true ∨ (s.slot i).isReady = true ∨
          (s.slot i).timer.isSome = true →
        exec .slotResume s = no .state))) ∧
    (∀ (s : State) (r : Request) (rest : List Request) (i : SlotIx) (l : LegIx) (f : FaultRecord) (rec : LegRecord),
      Takes s r rest → r.kind = .slotResume → r.body = leBytes 1 i.val →
      (s.slot i).standing = .inLeg l (.faulted f) → (s.leg l).record = some rec → f.cause.resumePoint = .legEnd →
      let q := s.updLink fun k => { k with inbox := rest }
      let reported :=
        if rec.endReport then
          q.report (.legEnd i l rec.count (if rec.digest then some ((s.slot i).digest ^^^ 0xFFFFFFFF) else none))
        else q
      let t := if f.cause = .leg then q.legEndStep3 i l rec false else (reported.pass .legEnd i).legEndStep3 i l rec false
      exec .slotResume s = .next { t with link := replied s.link r rest .ok [(t.slot i).standing.code] })

/-- Unless an ENGINE-RESET waits for the element: NEXT NONE leaves the slot DONE with no credits, its pin given up, the
CHAIN-END report with the credits discarded and the CHAIN-END event. A NEXT that fails the leg check leaves it FAULTED with
code LEG, a FAULT report and event. When NEXT names a leg n that passes the leg check, from a slot in leg l: the slot enters
n (addresses and REMAINING from its record, ELEMENT 0, accumulator FFFFFFFFh, LEG-RUN clear, CREDITS kept), the pin of l is
given up and a pin of n taken. With END-HOLD of the ended leg or HOLD-REQUESTED set it is HELD, the flag clear, with one HELD
report of the new leg; otherwise at a commit with PACE above 0 it is PACED with PACE microseconds left; otherwise it is ARMED
and evaluated. -/
def Obligations.LegEndReadsNext : Prop :=
  (∀ (s : State) (i : SlotIx) (l : LegIx) (rec : LegRecord) (c : Bool), s.resetWaits = false →
      let t := s.legEndStep3 i l rec c
      (rec.next = none →
        t = { s with
          slots := s.slots.set i
            { s.slot i with standing := .done, credits := 0, legRun := false, holdRequested := false }
          legs := s.legs.set l { s.leg l with pins := (s.leg l).pins - 1 }
          reports := s.reports.take (.chainEnd i l (s.slot i).credits)
          events := s.events ++ [{ kind := .chainEnd, slot := i }] }) ∧
      (∀ n, rec.next = some n → s.legCheck (s.slot i).setup.port n = false →
        let f : FaultRecord := { cause := .leg, leg := l, remaining := (s.slot i).remaining, element := 0 }
        t = { s with
          slots := s.slots.set i { s.slot i with standing := .inLeg l (.faulted f), holdRequested := false }
          reports := s.reports.take (.fault i f)
          events := s.events ++ [{ kind := .fault, slot := i }] })) ∧
    (∀ (s : State) (i : SlotIx) (l n : LegIx) (rec rn : LegRecord) (atCommit : Bool),
    rec.next = some n → (s.leg n).record = some rn → s.legCheck (s.slot i).setup.port n = true →
    let x : Slot :=
      { s.slot i with
        standing := .inLeg n .armed, src := rn.srcAddr, dst := rn.dstAddr, remaining := rn.count, element := 0
        digest := 0xFFFFFFFF, legRun := false }
    let unpinned := s.legs.set l { s.leg l with pins := (s.leg l).pins - 1 }
    let legs := unpinned.set n { unpinned.get n with pins := (unpinned.get n).pins + 1 }
    s.legEndStep3 i l rec atCommit =
      if rec.endHold ∨ (s.slot i).holdRequested then
        { s with
          slots := s.slots.set i { x with standing := .inLeg n .held, holdRequested := false }
          legs := legs
          reports := s.reports.take (.held i n rn.count) }
      else if atCommit ∧ 0 < (s.slot i).setup.pace then
        { s with slots := s.slots.set i { x with standing := .inLeg n (.paced (s.slot i).setup.pace) }, legs := legs }
      else State.evaluate { s with slots := s.slots.set i x, legs := legs } i)

/-- A slot number above 15 is refused with RANGE and an IDLE slot with STATE. An ACTIVE slot makes the request wait, and
nothing else changes. A slot ARMED, READY, PACED, HELD or FAULTED becomes IDLE with no credits, no flags and its context
kept, its leg's pin given up, with a CANCELLED report of its leg, REMAINING and element 0; a DONE slot likewise with no leg,
REMAINING 0. A SUSPENDED slot leaves the stack wherever it stands, the others keeping their order, its addresses and digest
are those of its snapshot, its port words are settled back, and the CANCELLED report gives the ELEMENT it had reached. Each
is answered OK; nothing else changes. -/
def Obligations.SlotCancelMakesTheSlotIdle : Prop :=
  ∀ (s : State) (r : Request) (rest : List Request) (n : Nat),
    Takes s r rest → r.kind = .slotCancel → n < 256 → r.body = leBytes 1 n →
    (16 ≤ n → exec .slotCancel s = .next { s with link := replied s.link r rest .range [] }) ∧
    (∀ i : SlotIx, i.val = n →
      let idle (x : Slot) : Slot := { x with standing := .idle, credits := 0, holdRequested := false, legRun := false }
      ((s.slot i).standing = .idle → exec .slotCancel s = .next { s with link := replied s.link r rest .state [] }) ∧
      ((s.slot i).isActive = true →
        exec .slotCancel s = .next { s with link := waiting s.link r rest (.cancel i) s.reports.queue.length }) ∧
      ((s.slot i).standing = .done →
        exec .slotCancel s =
          .next { s with
            link := replied s.link r rest .ok []
            slots := s.slots.set i (idle (s.slot i))
            reports := s.reports.take (.cancelled i none 0 0) }) ∧
      (∀ l st, (s.slot i).standing = .inLeg l st → (s.slot i).isActive = false → (s.slot i).isSuspended = false →
        exec .slotCancel s =
          .next { s with
            link := replied s.link r rest .ok []
            slots := s.slots.set i (idle (s.slot i))
            legs := s.legs.set l { s.leg l with pins := (s.leg l).pins - 1 }
            reports := s.reports.take (.cancelled i (some l) (s.slot i).remaining 0) }) ∧
      (∀ l above below snap rec, (s.slot i).standing = .inLeg l .suspended →
        s.arb.stack = above ++ { slot := i, snapshot := snap } :: below →
        (∀ e ∈ above, e.slot ≠ i) → (∀ e ∈ below, e.slot ≠ i) → (s.leg l).record = some rec →
        exec .slotCancel s =
          .next { s with
            link := replied s.link r rest .ok []
            slots := s.slots.set i
              (idle { s.slot i with src := snap.src, dst := snap.dst, digest := snap.digest, element := 0 })
            legs := s.legs.set l { s.leg l with pins := (s.leg l).pins - 1 }
            arb := { s.arb with stack := above ++ below }
            ports :=
              match rec.srcPort.or rec.dstPort with
              | none => s.ports
              | some p =>
                s.ports.set p
                  { s.port p with
                    fifo := (s.port p).fifo.take ((s.port p).fifo.length - (s.port p).staged), tentative := 0, staged := 0 }
            reports := s.reports.take (.cancelled i (some l) (s.slot i).remaining (s.slot i).element) }))

/-- A slot number above 15 is refused with RANGE. Otherwise the reply carries the 23 bytes of the fixed part, CURRENT-LEG
when the slot has one and the fault record when it is FAULTED, each in the bytes of its layout; nothing but the link changes.
The body, STATUS included, has 24 bytes for an IDLE or DONE slot, 26 for one in ARMED, READY, ACTIVE, SUSPENDED, PACED or
HELD, and 35, 41 or 33 for one FAULTED with an element code, DIGEST or LEG. -/
def Obligations.SlotQueryReturnsTheRecord : Prop :=
  (∀ (s : State) (r : Request) (rest : List Request) (n : Nat),
      Takes s r rest → r.kind = .slotQuery → n < 256 → r.body = leBytes 1 n →
      exec .slotQuery s =
        if hn : n < 16 then .next { s with link := replied s.link r rest .ok (s.slot ⟨n, hn⟩).bytes }
        else .next { s with link := replied s.link r rest .range [] }) ∧
    (∀ x : Slot, x.bytes.take 23 =
      leBytes 1 x.setup.priority.val
        ++ [BitVec.ofNat 8 ((if x.setup.yields then 1 else 0) + (if x.setup.preempt then 2 else 0)
          + (if x.setup.runLeg then 4 else 0))]
        ++ (match x.setup.port with | none => [0xFF] | some p => leBytes 1 p.val) ++ leBytes 2 x.setup.pace
        ++ (match x.setup.firstLeg with | none => [0xFF, 0xFF] | some l => leBytes 2 l.val)
        ++ [(match x.standing with
          | .idle => 0x00 | .inLeg _ .armed => 0x01 | .inLeg _ .ready => 0x02 | .inLeg _ .active => 0x03
          | .inLeg _ .suspended => 0x04 | .inLeg _ (.paced _) => 0x05 | .inLeg _ .held => 0x06 | .done => 0x07
          | .inLeg _ (.faulted _) => 0x08 : Byte)]
        ++ [BitVec.ofNat 8 ((if x.holdRequested then 1 else 0) + (if x.legRun then 2 else 0)
          + (if x.timer.isSome then 4 else 0) + (if x.currentLeg.isSome then 8 else 0)
          + (if x.faultRecord.isSome then 16 else 0))]
        ++ leBytes 1 x.credits ++ leBytes 2 x.src.toNat ++ leBytes 2 x.dst.toNat ++ leBytes 2 x.remaining ++ leBytes 1 x.element
        ++ leBytes 4 x.digest.toNat ++ leBytes 2 (x.timer.getD 0)) ∧
    (∀ x : Slot, x.bytes.drop 23 =
      match x.standing with
      | .idle | .done => []
      | .inLeg l (.faulted f) =>
        leBytes 2 l.val
          ++ [(match f.cause with
            | .fenceRead _ => 0x01 | .fenceWrite _ => 0x02 | .parity _ => 0x03 | .digest _ _ => 0x04 | .leg => 0x05 : Byte)]
          ++ [(match f.cause with | .fenceRead _ | .fenceWrite _ | .parity _ => 0x00 | .digest _ _ | .leg => 0x01 : Byte)]
          ++ leBytes 2 f.leg.val ++ leBytes 2 f.remaining ++ leBytes 1 f.element
          ++ (match f.cause with
            | .fenceRead a | .fenceWrite a | .parity a => leBytes 2 a.toNat
            | .digest e a => leBytes 4 e.toNat ++ leBytes 4 a.toNat
            | .leg => [])
      | .inLeg l _ => leBytes 2 l.val)

/-- An index above 31 is refused with RANGE. Otherwise the reply is OK and carries ENABLED in bit 0 and ONE-SHOT in bit 1 of
one byte, EVENT, SOURCE, TARGET and ACTION of the entry as they stand; nothing but the link changes. So an entry whose
ENABLED a firing has cleared reads with ENABLED clear. -/
def Obligations.TrigReadReturnsTheEntry : Prop :=
  ∀ (s : State) (r : Request) (rest : List Request) (k : Nat),
    Takes s r rest → r.kind = .trigRead → k < 256 → r.body = leBytes 1 k →
    exec .trigRead s =
      if hk : k < 32 then
        .next { s with
          link := replied s.link r rest .ok
           ([BitVec.ofNat 8 ((if (s.trigger ⟨k, hk⟩).enabled then 1 else 0) + (if (s.trigger ⟨k, hk⟩).oneShot then 2 else 0))]
            ++ [(match (s.trigger ⟨k, hk⟩).event with
              | .burstEnd => 0x00 | .mark => 0x01 | .legEnd => 0x02 | .chainEnd => 0x03 | .fault => 0x04 : Byte)]
            ++ leBytes 1 (s.trigger ⟨k, hk⟩).source.val ++ leBytes 1 (s.trigger ⟨k, hk⟩).target.val
            ++ [(match (s.trigger ⟨k, hk⟩).action with | .start => 0x00 | .arm => 0x01 | .hold => 0x02 : Byte)]) }
      else .next { s with link := replied s.link r rest .range [] }

/-- A port above 7 is refused with RANGE; a DIRECTION above 1 or a THRESHOLD outside 1 to 32, with FIELD; a bound slot in
ARMED, READY, ACTIVE, SUSPENDED, PACED or HELD, with IN-USE. Otherwise the port has the setup carried, an empty FIFO and no
tentative or staged words, its alarm flags and counters as before, and SDn is an input for IN. For OUT, a port that was
outbound drives the rest of a frame under way as zeros, its last word driven standing for that frame (log entry 12); a port
that was inbound, with no word driven, drives none until its next take, which the spec leaves open and is the model's choice
(log entry 19). The reply is OK. A rise of the condition reaches a bound slot, which is then DONE or FAULTED, without effect.
Nothing else changes. -/
def Obligations.PortSetupWritesTheSetup : Prop :=
  ∀ (s : State) (r : Request) (rest : List Request) (n d th : Nat) (en : Bool),
    Takes s r rest → r.kind = .portSetup → n < 256 → d < 256 → th < 256 →
    r.body = leBytes 1 n ++ leBytes 1 d ++ leBytes 1 th ++ [if en then 0x01 else 0x00] →
    exec .portSetup s =
      if hn : n < 8 then
        let p : PortIx := ⟨n, hn⟩
        if d ≤ 1 ∧ 1 ≤ th ∧ th ≤ 32 then
          if ∃ i : SlotIx, (s.slot i).boundTo p = true ∧ (s.slot i).keepsPort = true then
            .next { s with link := replied s.link r rest .inUse [] }
          else
            .next { s with
              link := replied s.link r rest .ok []
              ports := s.ports.set n
                { s.port p with
                  direction := if d = 0 then .inward else .outward
                  threshold := th, enable := en, fifo := [], tentative := 0, staged := 0
                  driven := if d = 0 then none else (s.port p).driven.map fun _ => (0 : Word) } }
        else .next { s with link := replied s.link r rest .field [] }
      else .next { s with link := replied s.link r rest .range [] }

/-- While RESET is low and through start-up an arrival has no effect. While the part runs: at an outbound or a disabled port
nothing changes. At an enabled inbound port below 32 words the word joins the back of the FIFO; unless this raises the
request condition nothing else changes, and when it does the bound slot, if any, is evaluated. At 32 words the word is lost,
OVERRUN is set, OVERRUN-COUNT rises by 1 below 65535, and a PORT-ALARM report reaches the queue exactly when OVERRUN was
clear. -/
def Obligations.WordArrivalJoinsOrIsLost : Prop :=
  ∀ (s : State) (p : PortIx) (w : Word),
    (s.phase ≠ .running → exec (.wordArrival p w) s = .next s) ∧
    (s.phase = .running →
    ((s.port p).direction = .outward ∨ (s.port p).enable = false → exec (.wordArrival p w) s = .next s) ∧
    ((s.port p).direction = .inward → (s.port p).enable = true →
      ((s.port p).fifo.length < 32 →
        let t : State := { s with ports := s.ports.set p { s.port p with fifo := (s.port p).fifo ++ [w] } }
        ((s.port p).fifo.length + 1 ≠ (s.port p).threshold →
          exec (.wordArrival p w) s = .next t) ∧
        ((s.port p).fifo.length + 1 = (s.port p).threshold →
          (∀ i, (s.slot i).boundTo p = true → (∀ j, j ≠ i → (s.slot j).boundTo p = false) →
            exec (.wordArrival p w) s = .next (t.evaluate i)) ∧
          ((∀ i, (s.slot i).boundTo p = false) → exec (.wordArrival p w) s = .next t))) ∧
      (32 ≤ (s.port p).fifo.length →
        exec (.wordArrival p w) s =
          .next { s with
            ports := s.ports.set p
              { s.port p with overrun := true, overrunCount := min ((s.port p).overrunCount + 1) (max (s.port p).overrunCount 65535) }
            reports := if (s.port p).overrun then s.reports else s.reports.take (.portAlarm p .overrun) })))

/-- While RESET is low and through start-up a take has no effect. While the part runs: at an inbound port nothing changes. At
a disabled outbound port zero is driven and nothing else changes. At an enabled one with a committed word that word leaves
the FIFO and is driven; unless this raises the request condition nothing else changes, and when it does the bound slot, if
any, is evaluated. With none committed, staged words or not, zero is driven, UNDERRUN is set, UNDERRUN-COUNT rises by 1 below
65535, and a PORT-ALARM report reaches the queue exactly when UNDERRUN was clear. -/
def Obligations.WordTakeDrivesACommittedWord : Prop :=
  ∀ (s : State) (p : PortIx),
    (s.phase ≠ .running → exec (.wordTake p) s = .next s) ∧
    (s.phase = .running →
    ((s.port p).direction = .inward → exec (.wordTake p) s = .next s) ∧
    ((s.port p).direction = .outward → (s.port p).enable = false →
      exec (.wordTake p) s = .next { s with ports := s.ports.set p { s.port p with driven := some 0 } }) ∧
    ((s.port p).direction = .outward → (s.port p).enable = true →
      (∀ w fifo, (s.port p).fifo = w :: fifo → (s.port p).staged ≤ fifo.length → fifo.length < 32 →
        let t : State := { s with ports := s.ports.set p { s.port p with fifo := fifo, driven := some w } }
        (32 - fifo.length ≠ (s.port p).threshold → exec (.wordTake p) s = .next t) ∧
        (32 - fifo.length = (s.port p).threshold →
          (∀ i, (s.slot i).boundTo p = true → (∀ j, j ≠ i → (s.slot j).boundTo p = false) →
            exec (.wordTake p) s = .next (t.evaluate i)) ∧
          ((∀ i, (s.slot i).boundTo p = false) → exec (.wordTake p) s = .next t))) ∧
      ((s.port p).fifo.length ≤ (s.port p).staged →
        exec (.wordTake p) s =
          .next { s with
            ports := s.ports.set p
              { s.port p with
                driven := some 0, underrun := true
                underrunCount := min ((s.port p).underrunCount + 1) (max (s.port p).underrunCount 65535) }
            reports := if (s.port p).underrun then s.reports else s.reports.take (.portAlarm p .underrun) })))

/-- In every state whose memory list has the canonical form of the model's representation (log entry 10; kept by every step,
MemoryPortAndLegLawsKept) UPSET goes on. Outside start-up the word it reaches is DAMAGED, every other buffer word reads as
before, and no other part of the state differs: no report, no counter, no slot. In start-up that had written n words and has
now come to r, the words between are good zeros, the word reached is DAMAGED, every other reads as before, and nothing else
differs; once start-up has ended the word is damaged if start-up had written it before the upset, and a good zero if not.
That the command's operand says how far start-up has come is the model's choice (log entry 2). -/
def Obligations.UpsetDamagesOneWord : Prop :=
  (∀ (s : State) (u : Upset), memWf s.mem = true → (∀ n, s.phase ≠ .startUp n) →
      ∃ t, exec (.upset u) s = .next t ∧ t = { s with mem := t.mem } ∧
        ∀ b : Addr, t.word b = if b = u.addr then .damaged else s.word b) ∧
    (∀ (s : State) (u : Upset) (n : Nat), memWf s.mem = true → s.phase = .startUp n →
      let r := max n (min u.written 65536)
      ∃ t, exec (.upset u) s = .next t ∧ t = { s with phase := .startUp r, mem := t.mem } ∧
        (∀ b : Addr, t.word b =
          if b = u.addr then .damaged else if n ≤ b.toNat ∧ b.toNat < r then .good 0 else s.word b) ∧
        ∀ v, exec .startUpEnd t = .next v → v.word u.addr = if u.addr.toNat < r then .damaged else .good 0)

/-- REPORT_REPLAY of a number the queue holds moves the send position to just before that report, forward or back, and
changes no report; of another number it is refused with SEQ. REPORT_GATE sets GATE to OPEN for 1 and CLOSED for 0. Nothing
else changes but the link, which has the reply. -/
def Obligations.ReplayAndGate : Prop :=
  (∀ (s : State) (r : Request) (rest : List Request) (q : Seq),
      Takes s r rest → r.kind = .reportReplay → r.body = leBytes 2 q.toNat →
      ((∀ x ∈ s.reports.queue, x.seq ≠ q) → exec .reportReplay s = .next { s with link := replied s.link r rest .seq [] }) ∧
      (∀ front back x, s.reports.queue = front ++ x :: back → x.seq = q → (∀ y ∈ front, y.seq ≠ q) →
        exec .reportReplay s =
          .next { s with
            link := replied s.link r rest .ok []
            reports := { s.reports with sendPos := front.length } })) ∧
    (∀ (s : State) (r : Request) (rest : List Request) (g : Bool),
      Takes s r rest → r.kind = .reportGate → r.body = [if g then 0x01 else 0x00] →
      exec .reportGate s =
        .next { s with link := replied s.link r rest .ok [], reports := { s.reports with gateOpen := g } })

/-- Below 32 reports the report joins the back with SEQ equal to NEXT-SEQ and SENT clear, NEXT-SEQ rises by 1 modulo 65536
and ATTN is asserted; the send position keeps the reports before it, so at the end it now stands before the new report. At 32
nothing changes but LOST, which rises by 1 and stays at 65535. ATTN is asserted exactly while the queue holds a report. When
the queue is front ++ s ++ back with no other report of s's number in front: if s is not SENT the request is refused with
SEQ; if it is, front and s leave, the send position keeps its place among the rest, and when LOST is above 0 a LOSS report
with that count is appended as NEXT-SEQ and LOST is 0; the reply carries the reports left. When no report has the number it
is refused with SEQ. A refusal changes nothing but the link. -/
def Obligations.ReportsAreAppendedAndAcknowledged : Prop :=
  (∀ (q : ReportQueue) (b : ReportBody),
    (q.queue.length < 32 →
      q.take b = { q with queue := q.queue ++ [{ seq := q.nextSeq, body := b, sent := false }], nextSeq := q.nextSeq + 1 } ∧
        (q.take b).attn = true) ∧
    (32 ≤ q.queue.length → q.lost < 65535 → q.take b = { q with lost := q.lost + 1 }) ∧
    (32 ≤ q.queue.length → q.lost = 65535 → q.take b = q) ∧
    (q.attn = true ↔ q.queue ≠ [])) ∧
    (∀ (s : State) (r : Request) (rest : List Request) (q : Seq),
    Takes s r rest → r.kind = .reportAck → r.body = leBytes 2 q.toNat →
    ((∀ x ∈ s.reports.queue, x.seq ≠ q) → exec .reportAck s = .next { s with link := replied s.link r rest .seq [] }) ∧
    (∀ front back x, s.reports.queue = front ++ x :: back → x.seq = q → (∀ y ∈ front, y.seq ≠ q) →
      (x.sent = false → exec .reportAck s = .next { s with link := replied s.link r rest .seq [] }) ∧
      (x.sent = true → s.reports.queue.length ≤ 32 →
        let left : List Report :=
          if 0 < s.reports.lost then back ++ [{ seq := s.reports.nextSeq, body := .loss s.reports.lost, sent := false }] else back
        exec .reportAck s =
          .next { s with
            link := replied s.link r rest .ok (leBytes 1 left.length)
            reports := { s.reports with
              queue := left
              nextSeq := if 0 < s.reports.lost then s.reports.nextSeq + 1 else s.reports.nextSeq
              sendPos := s.reports.sendPos - (front.length + 1)
              lost := 0 } })))

/-- While the part runs: the free transmitter takes the oldest reply out of the queue and sends its frame; with no reply
waiting it takes the report just after the send position when GATE is OPEN and, while a request executes, only one that stood
in the queue when that request was taken: the position moves past it, SENT is set, and the frame of its SEQ, kind and fields
goes out; the report stays in the queue. At a frame's end the transmitter is free and chooses so at once, staying free when
there is nothing to send; that the choice is made in the step of FRAME_SENT is read from R163 and R189 (log entry 14).
Nothing else changes. -/
def Obligations.TransmitterTakesRepliesBeforeReports : Prop :=
  ∀ s : State, s.phase = .running →
    let reply (f : Frame) (rest : List Frame) : State :=
      { s with link := { s.link with replies := rest, transmitter := .sending f.line } }
    let report (x : Report) : State :=
      { s with
        reports := { s.reports with
          queue := s.reports.queue.set s.reports.sendPos { x with sent := true }, sendPos := s.reports.sendPos + 1 }
        link := { s.link with
          transmitter := .sending
            (Frame.line { kind := x.body.code, tag := x.seq.setWidth 8, body := leBytes 2 x.seq.toNat ++ x.body.bytes }) } }
    let offered (x : Report) : Prop :=
      s.link.replies = [] ∧ s.reports.gateOpen = true ∧ s.reports.queue[s.reports.sendPos]? = some x ∧
        ∀ e, s.link.executing = some e → s.reports.sendPos < e.reportsAtTake
    (∀ f rest, s.link.transmitter = .free → s.link.replies = f :: rest → exec .transmitReply s = .next (reply f rest)) ∧
    (∀ x, s.link.transmitter = .free → offered x → exec .transmitReport s = .next (report x)) ∧
    (∀ line, s.link.transmitter = .sending line →
      (∀ f rest, s.link.replies = f :: rest → exec .frameSent s = .next (reply f rest)) ∧
      (∀ x, offered x → exec .frameSent s = .next (report x)) ∧
      (s.link.replies = [] → (∀ x, ¬ offered x) →
        exec .frameSent s = .next { s with link := { s.link with transmitter := .free } }))

/-- While the part runs, the expiry of a PACED slot's timer stops the timer, makes the slot ARMED in its leg and evaluates
its eligibility; a timer runs only while its slot is PACED, so at a slot in any other state there is no expiry and nothing
changes (log entry 4). -/
def Obligations.PaceExpiryArmsThePacedSlot : Prop :=
  ∀ (s : State) (i : SlotIx), s.phase = .running →
    (∀ l n, (s.slot i).standing = .inLeg l (.paced n) →
      exec (.paceExpiry i) s =
        .next (State.evaluate { s with slots := s.slots.set i { s.slot i with standing := .inLeg l .armed } } i)) ∧
    ((s.slot i).timer = none → exec (.paceExpiry i) s = .next s)

/-- While the part runs with events waiting, the oldest event leaves the queue and the 32 entries are met in ascending order,
with a point of the release outstanding, if there is one, before each entry and after the last. An entry that is enabled with
the event's kind and slot fires on the state it meets, first clearing its ENABLED when it is ONE-SHOT and then acting at its
target; another entry does nothing. A point changes nothing with no release outstanding; otherwise a waiting cancel acts when
its own count runs out or the selection's does, and the arbiter selects when the selection's does. So an event that no entry
answers leaves the state but for its own removal and, with no cancel waiting, 33 points fewer until the selection, or the
selection itself. With no event waiting nothing changes (log entry 4). That the points are counted by the operand of the
element that ended the burst is the model's choice (log entry 6). -/
def Obligations.TriggerEventFiresInAscendingOrder : Prop :=
  (∀ s : State, s.phase = .running →
    (s.events = [] → exec .triggerEvent s = .next s) ∧
    (∀ e later, s.events = e :: later →
      let answers (k : TrigIx) (t : State) : Prop :=
        (t.trigger k).enabled = true ∧ (t.trigger k).event = e.kind ∧ (t.trigger k).source = e.slot
      let taken : State := { s with events := later }
      ((∀ k, ¬ answers k s) →
        ((∀ c n, s.arb.mover ≠ .releasing c n) → exec .triggerEvent s = .next taken) ∧
        (∀ c n, s.arb.mover = .releasing c n → (∀ x j, s.link.executing = some x → x.waits ≠ .cancel j) →
          exec .triggerEvent s =
            .next (if n ≤ 33 then taken.select
              else { taken with arb := { s.arb with mover := .releasing (c - 33) (n - 33) } }))) ∧
      ∃ t : Nat → State, t 0 = taken ∧ exec .triggerEvent s = .next (t 32).passPoint ∧
        ∀ k : TrigIx,
          let u := (t k.val).passPoint
          (¬ answers k u → t (k.val + 1) = u) ∧
          (answers k u →
            let disabled : State := { u with triggers := u.triggers.set k { u.trigger k with enabled := false } }
            t (k.val + 1) = (if (u.trigger k).oneShot then disabled else u).act k (u.trigger k).target (u.trigger k).action))) ∧
    (∀ u : State,
      ((∀ c n, u.arb.mover ≠ .releasing c n) → u.passPoint = u) ∧
      (∀ c n, u.arb.mover = .releasing c n →
        (n ≤ 1 → u.passPoint = u.cancelWaiting.select) ∧
        (1 < n → c ≤ 1 →
          u.passPoint = { u.cancelWaiting with arb := { u.cancelWaiting.arb with mover := .releasing (c - 1) (n - 1) } }) ∧
        (1 < n → 1 < c → u.passPoint = { u with arb := { u.arb with mover := .releasing (c - 1) (n - 1) } })))

/-- START at a bound target is dropped with MODE, at an IDLE or DONE one with STATE, past 15 credits with CREDITS; otherwise
one credit is added and the slot evaluated. HOLD is dropped with STATE at an IDLE, DONE or FAULTED target; it holds an ARMED,
READY or PACED one with a HELD report, and sets HOLD-REQUESTED of an ACTIVE or SUSPENDED one. ARM is dropped with STATE at a
target neither IDLE nor DONE, with LEG when FIRST-LEG is NONE, with IN-USE when the port is held, with LEG when the leg check
fails. A drop appends one report and changes nothing else. -/
def Obligations.TriggerActionsAtTheTarget : Prop :=
  ∀ (s : State) (k : TrigIx) (i : SlotIx),
    let drop (reason : DropReason) : State := { s with reports := s.reports.take (.triggerDrop k i reason) }
    let atRest : Prop := (s.slot i).standing = .idle ∨ (s.slot i).standing = .done
    let taken : Prop := ∃ (p : PortIx) (j : SlotIx), (s.slot i).setup.port = some p ∧ j ≠ i ∧ (s.slot j).boundTo p = true
    ((s.slot i).isBound = true → s.act k i .start = drop .mode) ∧
    ((s.slot i).isBound = false → atRest → s.act k i .start = drop .state) ∧
    ((s.slot i).isBound = false → ¬ atRest →
      s.act k i .start =
        if 15 < (s.slot i).credits + s.outstanding i + 1 then drop .credits
        else State.evaluate { s with slots := s.slots.set i { s.slot i with credits := (s.slot i).credits + 1 } } i) ∧
    (s.act k i .hold =
      match (s.slot i).standing with
      | .inLeg l .armed | .inLeg l .ready | .inLeg l (.paced _) =>
        { s with
          slots := s.slots.set i { s.slot i with standing := .inLeg l .held }
          reports := s.reports.take (.held i l (s.slot i).remaining) }
      | .inLeg _ .active | .inLeg _ .suspended => { s with slots := s.slots.set i { s.slot i with holdRequested := true } }
      | .inLeg _ .held => s
      | .idle | .done | .inLeg _ (.faulted _) => drop .state) ∧
    (¬ atRest → s.act k i .arm = drop .state) ∧
    (atRest → (s.slot i).setup.firstLeg = none → s.act k i .arm = drop .leg) ∧
    (∀ l, atRest → (s.slot i).setup.firstLeg = some l →
      (taken → s.act k i .arm = drop .inUse) ∧
      (¬ taken → s.legCheck (s.slot i).setup.port l = false → s.act k i .arm = drop .leg) ∧
      (∀ rec, ¬ taken → s.legCheck (s.slot i).setup.port l = true → (s.leg l).record = some rec →
        s.act k i .arm =
          State.evaluate
            { s with
              slots := s.slots.set i
                { s.slot i with
                  standing := .inLeg l .armed, src := rec.srcAddr, dst := rec.dstAddr, remaining := rec.count, element := 0
                  digest := 0xFFFFFFFF, legRun := false, credits := 0, holdRequested := false }
              legs := s.legs.set l { record := some rec, pins := (s.leg l).pins + 1 } } i))

/-- In flight, permitted by the fence table of its grant, which the command's operand places among the FENCE-SETs taken
meanwhile (log entry 5), with a word to move and room for it, not the last of its burst, and with no request waiting for it,
ELEMENT goes on: the word leaves its source and stands at its destination, the digest and the addresses are stepped, the
buffer grant is passed on and ELEMENT rises by 1. When the best ready slot is of strictly higher PRIORITY with PREEMPT, the
slot has YIELD and the stack holds fewer than 3, the slot is SUSPENDED on top of the stack with its snapshot and the best
ready slot is granted; otherwise it stays ACTIVE, its next element joining WAITING where its leg uses the buffer and a host
block holds the grant; with the grant free that element's ask and grant too are placed by a later step (log entry 5). With
the memory list in the canonical form of the model's representation (log entry 10), every buffer word but the one at DST of a
BUFFER destination reads as before. -/
def Obligations.ElementMovesAWordAndMayBePreempted : Prop :=
  ∀ (s : State) (c n k : Nat) (i : SlotIx) (l : LegIx) (r : LegRecord) (snap : Snapshot) (w : Word),
    ElementMoves s k i l r snap w → NoneWaits s → (s.slot i).element + 1 < r.burst →
    let m := wordMoved s i r w
    let risen : Slot := { m.slot i with element := (s.slot i).element + 1 }
    let preempts (q : SlotIx) : Prop :=
      (s.slot i).setup.priority < (s.slot q).setup.priority ∧ (s.slot q).setup.preempt = true ∧
        (s.slot i).setup.yields = true ∧ s.arb.stack.length < 3
    ((∀ q, s.bestReady = some q → ¬ preempts q) →
      exec (.element ⟨c, n, k⟩) s =
        .next { m with
          slots := m.slots.set i risen
          bufArb :=
            if r.usesBuffer = true ∧ m.bufArb.grant = some .link then { m.bufArb with waiting := some .mover } else m.bufArb }) ∧
    (∀ q, s.bestReady = some q → preempts q →
      exec (.element ⟨c, n, k⟩) s =
        .next (State.grant
          { m with
            slots := m.slots.set i { risen with standing := .inLeg l .suspended }
            arb := { s.arb with stack := { slot := i, snapshot := snap } :: s.arb.stack } } q)) ∧
    (memWf s.mem = true → ∀ a : Addr,
      m.word a =
        match r.dst with
        | .buffer _ => if a = (s.slot i).dst then .good w else s.word a
        | .port _ => s.word a)

/-- With SLOT-CANCEL of the ACTIVE slot waiting. An element that moves its word and is not the last of its burst ends the
burst: SRC, DST and DIGEST are the snapshot's, ELEMENT is 0, REMAINING is kept, the slot is IDLE with no credits and its
flags clear; its port's tentative words are given back and its staged words discarded; the pin is given up; a CANCELLED
report with the leg, REMAINING and the ELEMENT reached reaches the queue; the request is answered OK; and the mover is
released. The word the element wrote stays written. An element that fails faults first: the FAULT report and event, then, in
the same step where the command names it so, the slot IDLE from FAULTED with a CANCELLED report of element index 0, the
reply, and the selection. An element that is the last of its burst commits first (LastElementCommitsTheBurst): the cancel
then finds the state the commit left, and acts before the selection at the latest. It finds a PACED, ARMED, READY, HELD or
FAULTED slot and makes it IDLE with its context kept, its pin given up and a CANCELLED report of its leg, REMAINING and
element 0; a DONE slot likewise with no leg and REMAINING 0; and it is answered OK. With no cancel waiting there is nothing
to do. An ELEMENT that meets a release outstanding makes it: the waiting cancel, and then the selection. When the cancel and
the selection come among the trigger table's actions is named by the command's operand (log entry 6). -/
def Obligations.WaitingCancelTakesTheActiveSlot : Prop :=
  (∀ (s : State) (c n k : Nat) (i : SlotIx) (l : LegIx) (r : LegRecord) (snap : Snapshot) (w : Word) (e : Executing),
      ElementMoves s k i l r snap w → s.link.executing = some e → e.waits = .cancel i → (s.slot i).element + 1 < r.burst →
      exec (.element ⟨c, n, k⟩) s =
        .next (released
          { wordMoved s i r w with
            slots := s.slots.set i
              { s.slot i with
                standing := .idle, src := snap.src, dst := snap.dst, digest := snap.digest, element := 0, credits := 0
                legRun := false, holdRequested := false }
            legs := s.legs.set l { s.leg l with pins := (s.leg l).pins - 1 }
            arb := { s.arb with mover := .releasing 0 0 }
            ports := portsSettledBack (wordMoved s i r w) r
            reports := s.reports.take (.cancelled i (some l) (s.slot i).remaining ((s.slot i).element + 1))
            link := replied s.link e.request s.link.inbox .ok [] } 0 n)) ∧
    (∀ (s : State) (k : Nat) (i : SlotIx) (l : LegIx) (r : LegRecord) (snap : Snapshot) (cause : FaultCause) (e : Executing),
      InFlight s i l r snap → s.link.executing = some e → e.waits = .cancel i → Fails s k r (s.slot i) cause →
      let f : FaultRecord := { cause := cause, leg := l, remaining := (s.slot i).remaining, element := (s.slot i).element }
      exec (.element ⟨0, 0, k⟩) s =
        .next (State.select
          { s with
            bufArb := grantPassedOn r s.bufArb
            slots := s.slots.set i
              { s.slot i with
                standing := .idle, src := snap.src, dst := snap.dst, digest := snap.digest, element := 0, credits := 0
                legRun := false, holdRequested := false }
            legs := s.legs.set l { s.leg l with pins := (s.leg l).pins - 1 }
            arb := { s.arb with mover := .releasing 0 0 }
            ports := portsSettledBack s r
            reports := (s.reports.take (.fault i f)).take (.cancelled i (some l) (s.slot i).remaining 0)
            events := s.events ++ [{ kind := .fault, slot := i }]
            link := replied s.link e.request s.link.inbox .ok [] })) ∧
    (∀ (t : State) (e : Executing) (i : SlotIx), t.link.executing = some e → e.waits = .cancel i →
      let idle (x : Slot) : Slot := { x with standing := .idle, credits := 0, holdRequested := false, legRun := false }
      let answered (u : State) : State := { u with link := replied t.link e.request t.link.inbox .ok [] }
      (∀ l st, (t.slot i).standing = .inLeg l st → st ≠ .active → st ≠ .suspended →
        t.cancelWaiting =
          answered { t with
            slots := t.slots.set i (idle (t.slot i))
            legs := t.legs.set l { t.leg l with pins := (t.leg l).pins - 1 }
            reports := t.reports.take (.cancelled i (some l) (t.slot i).remaining 0) }) ∧
      ((t.slot i).standing = .done →
        t.cancelWaiting =
          answered { t with slots := t.slots.set i (idle (t.slot i)), reports := t.reports.take (.cancelled i none 0 0) })) ∧
    (∀ t : State, (∀ e i, t.link.executing = some e → e.waits ≠ .cancel i) → t.cancelWaiting = t) ∧
    (∀ (s : State) (c n : Nat) (o : ElementOrder), s.phase = .running → s.arb.mover = .releasing c n →
      exec (.element o) s = .next s.cancelWaiting.select)

/-- With an element in flight for which no ENGINE-RESET waits, checked against the fence table of its grant, which the
command's operand places among the FENCE-SETs taken meanwhile (log entry 5): a BUFFER source the mover may not read fails
with FENCE-READ at SRC; else a BUFFER destination it may not write fails with FENCE-WRITE at DST; else a damaged BUFFER
source word fails with PARITY at SRC. A failure writes no buffer word. The slot has SRC, DST and DIGEST of the snapshot,
ELEMENT 0, a used credit back and a LEG-RUN set by the burst cleared; it is FAULTED in its leg with the code, REMAINING and
the failing ELEMENT, HOLD-REQUESTED clear. Tentative words are given back and staged ones discarded. One FAULT report and one
FAULT event follow, the grant is passed on and the mover is released, with a waiting cancel and the selection where the
command names them (log entry 6). ELEMENT stops where the mover serves a slot that is not ACTIVE or whose leg is FREE; no
state that keeps the laws is one of these, and the stop is the model's (log entry 16). -/
def Obligations.ElementFailureFaultsTheSlot : Prop :=
  (∀ (s : State) (c n k : Nat) (i : SlotIx) (l : LegIx) (r : LegRecord) (snap : Snapshot) (cause : FaultCause),
      InFlight s i l r snap → s.resetWaits = false → Fails s k r (s.slot i) cause →
      let f : FaultRecord := { cause := cause, leg := l, remaining := (s.slot i).remaining, element := (s.slot i).element }
      exec (.element ⟨c, n, k⟩) s =
        .next (released
          { s with
            bufArb := grantPassedOn r s.bufArb
            slots := s.slots.set i
              { s.slot i with
                standing := .inLeg l (.faulted f), src := snap.src, dst := snap.dst, digest := snap.digest, element := 0
                credits := if snap.creditUsed then (s.slot i).credits + 1 else (s.slot i).credits
                legRun := if snap.runSet then false else (s.slot i).legRun
                holdRequested := false }
            ports := portsSettledBack s r
            arb := { s.arb with mover := .releasing 0 0 }
            reports := s.reports.take (.fault i f)
            events := s.events ++ [{ kind := .fault, slot := i }] } c n)) ∧
    (∀ (s : State) (c n k : Nat) (i : SlotIx) (snap : Snapshot), s.phase = .running → s.arb.mover = .busy i snap →
      ((s.slot i).isActive = false → exec (.element ⟨c, n, k⟩) s = .fault (.moverSlot i)) ∧
      (∀ l, (s.slot i).standing = .inLeg l .active → (s.leg l).record = none → exec (.element ⟨c, n, k⟩) s = .fault (.freeLeg l)))

/-- When the last element of a burst has moved its word and no ENGINE-RESET waits for it: the burst's port words are made
final, the skips are added, ELEMENT is 0 and REMAINING has fallen by 1; a REMAINING equal to a MARK of 1 or more appends the
MARK report and passes MARK; BURST-END is passed. With REMAINING above 0 a requested hold makes the slot HELD with a HELD
report; otherwise it is PACED with PACE microseconds, or with PACE 0 ARMED and evaluated. With REMAINING 0 a digest other
than the leg's EXPECT makes it FAULTED with DIGEST, a report and an event; otherwise a LEG-END report where the leg asks for
one, with the final digest where it has one, the LEG-END event, and the reading of NEXT. The mover is then released: where
the command names it so in this step, a waiting cancel acts on the state the commit left and then the arbiter selects, and
otherwise the release is outstanding for the points the command names (log entry 6). -/
def Obligations.LastElementCommitsTheBurst : Prop :=
  ∀ (s : State) (c n k : Nat) (i : SlotIx) (l : LegIx) (r : LegRecord) (snap : Snapshot) (w : Word),
    ElementMoves s k i l r snap w → s.resetWaits = false → (s.slot i).element + 1 = r.burst → 1 ≤ (s.slot i).remaining →
    let m := wordMoved s i r w
    let left := (s.slot i).remaining - 1
    let marked : Bool := decide (1 ≤ r.mark ∧ left = r.mark)
    let y : Slot :=
      { m.slot i with src := r.srcSkipped (m.slot i).src, dst := r.dstSkipped (m.slot i).dst, element := 0, remaining := left }
    let done (z : Slot) : State :=
      { m with
        slots := s.slots.set i z
        ports :=
          match r.srcPort.or r.dstPort with
          | none => m.ports
          | some p => m.ports.set p { m.port p with fifo := (m.port p).fifo.drop (m.port p).tentative, tentative := 0, staged := 0 }
        arb := { s.arb with mover := .releasing 0 0 }
        reports := if marked then s.reports.take (.mark i l left) else s.reports
        events := s.events ++ (if marked then [{ kind := .mark, slot := i }] else []) ++ [{ kind := .burstEnd, slot := i }] }
    (0 < left →
      exec (.element ⟨c, n, k⟩) s =
        .next (released
          (if (s.slot i).holdRequested then
            (done { y with standing := .inLeg l .held, holdRequested := false }).report (.held i l left)
          else if 0 < (s.slot i).setup.pace then done { y with standing := .inLeg l (.paced (s.slot i).setup.pace) }
          else (done { y with standing := .inLeg l .armed }).evaluate i) c n)) ∧
    (left = 0 →
      let final := y.digest ^^^ 0xFFFFFFFF
      (∀ e, r.digest = true → r.expect = some e → e ≠ final →
        let f : FaultRecord := { cause := .digest e final, leg := l, remaining := 0, element := 0 }
        exec (.element ⟨c, n, k⟩) s =
          .next (released
            (((done { y with standing := .inLeg l (.faulted f), holdRequested := false }).report (.fault i f)).pass .fault i) c n)) ∧
      (r.digest = false ∨ r.expect = none ∨ r.expect = some final →
        exec (.element ⟨c, n, k⟩) s =
          .next (released
            (State.legEndStep3
              ((if r.endReport then (done y).report (.legEnd i l r.count (if r.digest then some final else none))
                else done y).pass .legEnd i)
              i l r true) c n)))

/-- There is a best ready slot exactly when some slot is READY; it is the READY slot that every other READY one either stands
below in PRIORITY or, at the same level, is met after when slot numbers are counted up from the level's pointer plus 1,
wrapping. At a selection with an empty stack the best ready slot is granted, and with none the mover is idle. With a top
entry, the best ready slot is granted when its PRIORITY is strictly above the top's and it has PREEMPT; otherwise the top
leaves the stack and is ACTIVE in its leg with its snapshot at the mover, its context, every pointer and every credit as they
were. Its element joins WAITING when its leg uses the buffer and a host block holds the grant; with the grant free its ask
and grant are placed by a later step, which is the model's choice (log entry 5), and the buffer arbiter is as before. -/
def Obligations.TheBestReadySlotIsGrantedOrTheTopPopped : Prop :=
  ∀ s : State,
    (s.bestReady = none ↔ ∀ i, (s.slot i).isReady = false) ∧
    (∀ i, s.bestReady = some i ↔
      (s.slot i).isReady = true ∧ ∀ j, (s.slot j).isReady = true → j ≠ i →
        (s.slot j).setup.priority < (s.slot i).setup.priority ∨
          ((s.slot j).setup.priority = (s.slot i).setup.priority ∧
            (i.val + 15 - (s.arb.pointers.get (s.slot i).setup.priority).val) % 16 <
              (j.val + 15 - (s.arb.pointers.get (s.slot i).setup.priority).val) % 16)) ∧
    (s.arb.stack = [] →
      ((∀ i, (s.slot i).isReady = false) → s.select = { s with arb := { s.arb with mover := .idle } }) ∧
      (∀ q, s.bestReady = some q → s.select = State.grant { s with arb := { s.arb with mover := .idle } } q)) ∧
    (∀ top rest, s.arb.stack = top :: rest →
      let above (q : SlotIx) : Prop :=
        (s.slot top.slot).setup.priority < (s.slot q).setup.priority ∧ (s.slot q).setup.preempt = true
      (∀ q, s.bestReady = some q → above q → s.select = s.grant q) ∧
      (∀ l r, (∀ q, s.bestReady = some q → ¬ above q) → (s.slot top.slot).standing = .inLeg l .suspended →
        (s.leg l).record = some r →
        s.select =
          { s with
            slots := s.slots.set top.slot { s.slot top.slot with standing := .inLeg l .active }
            arb := { s.arb with stack := rest, mover := .busy top.slot top.snapshot }
            bufArb :=
              if r.usesBuffer = true ∧ s.bufArb.grant = some .link then { s.bufArb with waiting := some .mover } else s.bufArb }))

/-- With RING 0 an address moves by an amount modulo 65536. With RING k it stays in its window of 2^k words, and its low k
bits are the old ones plus the amount, modulo 2^k. A step moves a BUFFER endpoint's address by its signed STEP, a skip by its
signed SKIP, and another endpoint's not at all. Folding a word takes its four bytes from the least significant up; each byte
is combined with the low eight bits, and eight shifts follow, each combining EDB88320h when the bit shifted out is 1. The
accumulator FFFFFFFFh gives 00000000h for FFFFFFFFh and DEBB20E3h for 00000000h, and 2144DF1Ch is the latter's final digest. -/
def Obligations.AddressesMoveAndDigestFolds : Prop :=
  (∀ (p : Path) (a : Addr) (n : Int),
      (p.ring.val = 0 → ((p.moved a n).toNat : Int) = ((a.toNat : Int) + n) % 65536) ∧
      (p.ring.val ≠ 0 →
        (p.moved a n).toNat / 2 ^ p.ring.val = a.toNat / 2 ^ p.ring.val ∧
        (((p.moved a n).toNat % 2 ^ p.ring.val : Nat) : Int) =
          (((a.toNat % 2 ^ p.ring.val : Nat) : Int) + n) % ((2 ^ p.ring.val : Nat) : Int))) ∧
    (∀ (r : LegRecord) (a : Addr),
      (∀ p, r.src = .buffer p → r.srcStepped a = p.moved a p.step.toInt ∧ r.srcSkipped a = p.moved a p.skip.toInt) ∧
      (∀ p, r.dst = .buffer p → r.dstStepped a = p.moved a p.step.toInt ∧ r.dstSkipped a = p.moved a p.skip.toInt) ∧
      ((∀ p, r.src ≠ .buffer p) → r.srcStepped a = a ∧ r.srcSkipped a = a) ∧
      ((∀ p, r.dst ≠ .buffer p) → r.dstStepped a = a ∧ r.dstSkipped a = a)) ∧
    (∀ acc w : Word,
      digestWord acc w = ([0, 1, 2, 3] : List Nat).foldl (fun x k => digestByte x ((w >>> (8 * k)).setWidth 8)) acc) ∧
    (∀ (acc : Word) (b : Byte), digestByte acc b = Nat.repeat digestShift 8 (acc ^^^ b.setWidth 32)) ∧
    (∀ acc : Word, digestShift acc = if acc.getLsbD 0 then (acc >>> 1) ^^^ 0xEDB88320 else acc >>> 1) ∧
    digestWord 0xFFFFFFFF 0xFFFFFFFF = 0 ∧ digestWord 0xFFFFFFFF 0 = 0xDEBB20E3 ∧ finalDigest 0xDEBB20E3 = 0x2144DF1C

/-- For every command that goes on: the buffer memory is unchanged unless it is POWER_RESET, START_UP_END, UPSET, ELEMENT or
HOST_BLOCK_GRANT; the fence table unless it is FENCE_SET or POWER_RESET; the trigger table unless it is TRIG_SET,
TRIGGER_EVENT or POWER_RESET; every leg record unless it is LEG_LOAD, LEG_LINK or POWER_RESET; the rate code unless it is
RESET_RELEASE or POWER_RESET; the phase unless it is one of POWER_RESET, RESET_RELEASE, START_UP_END and, in start-up, UPSET. -/
def Obligations.OnlyTheseCommandsWriteTheStores : Prop :=
  ∀ (c : Instr) (s t : State), exec c s = .next t →
    (c ≠ .startUpEnd → (∀ u, c ≠ .upset u) → (∀ o, c ≠ .element o) → c ≠ .powerReset → c ≠ .hostBlockGrant →
      ∀ a : Addr, t.word a = s.word a) ∧
    (c ≠ .powerReset → c ≠ .fenceSet → t.fences = s.fences) ∧
    (c ≠ .powerReset → c ≠ .trigSet → c ≠ .triggerEvent → t.triggers = s.triggers) ∧
    (c ≠ .powerReset → c ≠ .legLoad → c ≠ .legLink → ∀ l, (t.leg l).record = (s.leg l).record) ∧
    (c ≠ .powerReset → (∀ x, c ≠ .resetRelease x) → t.link.rate = s.link.rate ∧
      (c ≠ .startUpEnd → ((∀ u, c ≠ .upset u) ∨ ∀ n, s.phase ≠ .startUp n) → t.phase = s.phase))

/-- From every state whose report queue keeps its law, a step that goes on leaves the law kept: at most 32 reports with
consecutive numbers that end just below NEXT-SEQ, the send position within the queue or at its end, and LOST above 0 only
while the queue holds 32. -/
def Obligations.ReportLawKept : Prop :=
  ∀ s t : State, ReportLaw s.reports → step s = .next t → ReportLaw t.reports

/-- From every state whose link keeps its law, a step that goes on leaves the law kept: at most 8 inbox requests, at most 12
replies with the reserved place, at most 16 cache entries, the tags in use distinct, the cached tags distinct, and no tag
both cached and in use. -/
def Obligations.LinkLawKept : Prop :=
  ∀ s t : State, LinkLaw s.link → step s = .next t → LinkLaw t.link

/-- From every state in which each leg's pin count is the number of slots whose current leg it is and every pinned leg is
LOADED, a step that goes on leaves a state in which both hold; no pin count then passes 16. -/
def Obligations.PinLawKept : Prop :=
  ∀ s t : State, PinLaw s → step s = .next t → PinLaw t ∧ ∀ l, (t.leg l).pins ≤ 16

/-- From every state that has the one of these laws named, a step that goes on leaves it kept: the memory list rises by
address and lists no word that reads as an unlisted one, which is the form of the model's own representation of the buffer
(log entry 10); every port has a THRESHOLD of 1 to 32, at most 32 words, and tentative and staged counts that fit its
direction and its words; every record of the leg store passes the record check. -/
def Obligations.MemoryPortAndLegLawsKept : Prop :=
  ∀ s t : State, step s = .next t →
    (memWf s.mem = true → memWf t.mem = true) ∧
    ((∀ p, PortLaw (s.port p)) → ∀ p, PortLaw (t.port p)) ∧
    (LegLaw s → LegLaw t)

/-- From every state in which no two slots outside IDLE are bound to the same port, a step that goes on leaves such a state;
and from every state in which each fault record has its slot's leg and REMAINING and element index 0 at LEG-END, a step that
goes on leaves such a state. -/
def Obligations.BindingAndFaultLawsKept : Prop :=
  ∀ s t : State, step s = .next t → (BindingLaw s → BindingLaw t) ∧ (FaultLaw s → FaultLaw t)

/-- From every state in which the ACTIVE slot is the one the mover serves, the SUSPENDED slots are the stack's, each once and
at most three, with PRIORITY falling strictly from the ACTIVE slot down, and an idle mover leaves no READY slot and an empty
stack, a step that goes on leaves such a state. -/
def Obligations.ArbiterLawKept : Prop :=
  ∀ s t : State, ArbiterLaw s → step s = .next t → ArbiterLaw t

/-- From every state with the arbiter's law, a step that goes on keeps: ELEMENT is 0 in every slot neither ACTIVE nor
SUSPENDED; CREDITS with the outstanding credit are at most 15; and, with the pin law and the law of the leg store as well,
REMAINING stands between 1 and COUNT of the current leg, but 0 in FAULTED at LEG-END. -/
def Obligations.ElementCreditAndRemainingLawsKept : Prop :=
  ∀ s t : State, ArbiterLaw s → step s = .next t →
    (ElementLaw s → ElementLaw t) ∧ (CreditLaw s → CreditLaw t) ∧
    (PinLaw s → LegLaw s → RemainingLaw s → RemainingLaw t)

/-- From every state with the laws of the transfer side, every command goes on, and a step leaves a state that has these laws
again; so every run of commands from such a state goes on for ever. The laws are those of the pins, the binding, the arbiter,
ELEMENT, the leg store, the ports, and the streams between a slot and its port. -/
def Obligations.TransferLawKeptAndNothingStops : Prop :=
  (∀ (c : Instr) (s : State), TransferLaw s → ∃ t, exec c s = .next t) ∧
    (∀ s t : State, TransferLaw s → step s = .next t → TransferLaw t) ∧
    (∀ (s : State) (k : Nat), TransferLaw s → SafeFor k s = true)

/-- In the state after reset the laws of the report queue, the link, the memory's representation (log entry 10), the transfer
side, the credits, REMAINING and the fault records hold. -/
def Obligations.LawsHoldAtReset : Prop :=
  ReportLaw State.reset.reports ∧ LinkLaw State.reset.link ∧ memWf State.reset.mem = true ∧ TransferLaw State.reset ∧
    CreditLaw State.reset ∧ RemainingLaw State.reset ∧ FaultLaw State.reset
end

