-- ==== Sys2Proof/Laws/State.lean ====
section
/-! SUPPORT. One lemma for each field and each update of the state, so that no proof unfolds a record update, and what a table
lookup gives after a table update. -/

namespace Sys2Proof.Machine

variable (s : State)

/-! ### updSlot -/

@[simp] theorem State.updSlot_phase (i : SlotIx) (f : Slot → Slot) : (s.updSlot i f).phase = s.phase := rfl
@[simp] theorem State.updSlot_link (i : SlotIx) (f : Slot → Slot) : (s.updSlot i f).link = s.link := rfl
@[simp] theorem State.updSlot_legs (i : SlotIx) (f : Slot → Slot) : (s.updSlot i f).legs = s.legs := rfl
@[simp] theorem State.updSlot_slots (i : SlotIx) (f : Slot → Slot) : (s.updSlot i f).slots = s.slots.set i (f (s.slot i)) := rfl
@[simp] theorem State.updSlot_arb (i : SlotIx) (f : Slot → Slot) : (s.updSlot i f).arb = s.arb := rfl
@[simp] theorem State.updSlot_mem (i : SlotIx) (f : Slot → Slot) : (s.updSlot i f).mem = s.mem := rfl
@[simp] theorem State.updSlot_bufArb (i : SlotIx) (f : Slot → Slot) : (s.updSlot i f).bufArb = s.bufArb := rfl
@[simp] theorem State.updSlot_fences (i : SlotIx) (f : Slot → Slot) : (s.updSlot i f).fences = s.fences := rfl
@[simp] theorem State.updSlot_ports (i : SlotIx) (f : Slot → Slot) : (s.updSlot i f).ports = s.ports := rfl
@[simp] theorem State.updSlot_triggers (i : SlotIx) (f : Slot → Slot) : (s.updSlot i f).triggers = s.triggers := rfl
@[simp] theorem State.updSlot_events (i : SlotIx) (f : Slot → Slot) : (s.updSlot i f).events = s.events := rfl
@[simp] theorem State.updSlot_reports (i : SlotIx) (f : Slot → Slot) : (s.updSlot i f).reports = s.reports := rfl
@[simp] theorem State.updSlot_pending (i : SlotIx) (f : Slot → Slot) : (s.updSlot i f).pending = s.pending := rfl

/-! ### updLeg -/

@[simp] theorem State.updLeg_phase (l : LegIx) (f : LegEntry → LegEntry) : (s.updLeg l f).phase = s.phase := rfl
@[simp] theorem State.updLeg_link (l : LegIx) (f : LegEntry → LegEntry) : (s.updLeg l f).link = s.link := rfl
@[simp] theorem State.updLeg_legs (l : LegIx) (f : LegEntry → LegEntry) : (s.updLeg l f).legs = s.legs.set l (f (s.leg l)) := rfl
@[simp] theorem State.updLeg_slots (l : LegIx) (f : LegEntry → LegEntry) : (s.updLeg l f).slots = s.slots := rfl
@[simp] theorem State.updLeg_arb (l : LegIx) (f : LegEntry → LegEntry) : (s.updLeg l f).arb = s.arb := rfl
@[simp] theorem State.updLeg_mem (l : LegIx) (f : LegEntry → LegEntry) : (s.updLeg l f).mem = s.mem := rfl
@[simp] theorem State.updLeg_bufArb (l : LegIx) (f : LegEntry → LegEntry) : (s.updLeg l f).bufArb = s.bufArb := rfl
@[simp] theorem State.updLeg_fences (l : LegIx) (f : LegEntry → LegEntry) : (s.updLeg l f).fences = s.fences := rfl
@[simp] theorem State.updLeg_ports (l : LegIx) (f : LegEntry → LegEntry) : (s.updLeg l f).ports = s.ports := rfl
@[simp] theorem State.updLeg_triggers (l : LegIx) (f : LegEntry → LegEntry) : (s.updLeg l f).triggers = s.triggers := rfl
@[simp] theorem State.updLeg_events (l : LegIx) (f : LegEntry → LegEntry) : (s.updLeg l f).events = s.events := rfl
@[simp] theorem State.updLeg_reports (l : LegIx) (f : LegEntry → LegEntry) : (s.updLeg l f).reports = s.reports := rfl
@[simp] theorem State.updLeg_pending (l : LegIx) (f : LegEntry → LegEntry) : (s.updLeg l f).pending = s.pending := rfl

/-! ### updPort -/

@[simp] theorem State.updPort_phase (p : PortIx) (f : Port → Port) : (s.updPort p f).phase = s.phase := rfl
@[simp] theorem State.updPort_link (p : PortIx) (f : Port → Port) : (s.updPort p f).link = s.link := rfl
@[simp] theorem State.updPort_legs (p : PortIx) (f : Port → Port) : (s.updPort p f).legs = s.legs := rfl
@[simp] theorem State.updPort_slots (p : PortIx) (f : Port → Port) : (s.updPort p f).slots = s.slots := rfl
@[simp] theorem State.updPort_arb (p : PortIx) (f : Port → Port) : (s.updPort p f).arb = s.arb := rfl
@[simp] theorem State.updPort_mem (p : PortIx) (f : Port → Port) : (s.updPort p f).mem = s.mem := rfl
@[simp] theorem State.updPort_bufArb (p : PortIx) (f : Port → Port) : (s.updPort p f).bufArb = s.bufArb := rfl
@[simp] theorem State.updPort_fences (p : PortIx) (f : Port → Port) : (s.updPort p f).fences = s.fences := rfl
@[simp] theorem State.updPort_ports (p : PortIx) (f : Port → Port) : (s.updPort p f).ports = s.ports.set p (f (s.port p)) := rfl
@[simp] theorem State.updPort_triggers (p : PortIx) (f : Port → Port) : (s.updPort p f).triggers = s.triggers := rfl
@[simp] theorem State.updPort_events (p : PortIx) (f : Port → Port) : (s.updPort p f).events = s.events := rfl
@[simp] theorem State.updPort_reports (p : PortIx) (f : Port → Port) : (s.updPort p f).reports = s.reports := rfl
@[simp] theorem State.updPort_pending (p : PortIx) (f : Port → Port) : (s.updPort p f).pending = s.pending := rfl

/-! ### setTrigger -/

@[simp] theorem State.setTrigger_phase (k : TrigIx) (t : Trigger) : (s.setTrigger k t).phase = s.phase := rfl
@[simp] theorem State.setTrigger_link (k : TrigIx) (t : Trigger) : (s.setTrigger k t).link = s.link := rfl
@[simp] theorem State.setTrigger_legs (k : TrigIx) (t : Trigger) : (s.setTrigger k t).legs = s.legs := rfl
@[simp] theorem State.setTrigger_slots (k : TrigIx) (t : Trigger) : (s.setTrigger k t).slots = s.slots := rfl
@[simp] theorem State.setTrigger_arb (k : TrigIx) (t : Trigger) : (s.setTrigger k t).arb = s.arb := rfl
@[simp] theorem State.setTrigger_mem (k : TrigIx) (t : Trigger) : (s.setTrigger k t).mem = s.mem := rfl
@[simp] theorem State.setTrigger_bufArb (k : TrigIx) (t : Trigger) : (s.setTrigger k t).bufArb = s.bufArb := rfl
@[simp] theorem State.setTrigger_fences (k : TrigIx) (t : Trigger) : (s.setTrigger k t).fences = s.fences := rfl
@[simp] theorem State.setTrigger_ports (k : TrigIx) (t : Trigger) : (s.setTrigger k t).ports = s.ports := rfl
@[simp] theorem State.setTrigger_triggers (k : TrigIx) (t : Trigger) : (s.setTrigger k t).triggers = s.triggers.set k t := rfl
@[simp] theorem State.setTrigger_events (k : TrigIx) (t : Trigger) : (s.setTrigger k t).events = s.events := rfl
@[simp] theorem State.setTrigger_reports (k : TrigIx) (t : Trigger) : (s.setTrigger k t).reports = s.reports := rfl
@[simp] theorem State.setTrigger_pending (k : TrigIx) (t : Trigger) : (s.setTrigger k t).pending = s.pending := rfl

/-! ### setFence -/

@[simp] theorem State.setFence_phase (k : FenceIx) (f : Fence) : (s.setFence k f).phase = s.phase := rfl
@[simp] theorem State.setFence_link (k : FenceIx) (f : Fence) : (s.setFence k f).link = s.link := rfl
@[simp] theorem State.setFence_legs (k : FenceIx) (f : Fence) : (s.setFence k f).legs = s.legs := rfl
@[simp] theorem State.setFence_slots (k : FenceIx) (f : Fence) : (s.setFence k f).slots = s.slots := rfl
@[simp] theorem State.setFence_arb (k : FenceIx) (f : Fence) : (s.setFence k f).arb = s.arb := rfl
@[simp] theorem State.setFence_mem (k : FenceIx) (f : Fence) : (s.setFence k f).mem = s.mem := rfl
@[simp] theorem State.setFence_bufArb (k : FenceIx) (f : Fence) : (s.setFence k f).bufArb = s.bufArb := rfl
@[simp] theorem State.setFence_fences (k : FenceIx) (f : Fence) : (s.setFence k f).fences = s.fences.set k f := rfl
@[simp] theorem State.setFence_ports (k : FenceIx) (f : Fence) : (s.setFence k f).ports = s.ports := rfl
@[simp] theorem State.setFence_triggers (k : FenceIx) (f : Fence) : (s.setFence k f).triggers = s.triggers := rfl
@[simp] theorem State.setFence_events (k : FenceIx) (f : Fence) : (s.setFence k f).events = s.events := rfl
@[simp] theorem State.setFence_reports (k : FenceIx) (f : Fence) : (s.setFence k f).reports = s.reports := rfl
@[simp] theorem State.setFence_pending (k : FenceIx) (f : Fence) : (s.setFence k f).pending = s.pending := rfl

/-! ### setMover -/

@[simp] theorem State.setMover_phase (m : Mover) : (s.setMover m).phase = s.phase := rfl
@[simp] theorem State.setMover_link (m : Mover) : (s.setMover m).link = s.link := rfl
@[simp] theorem State.setMover_legs (m : Mover) : (s.setMover m).legs = s.legs := rfl
@[simp] theorem State.setMover_slots (m : Mover) : (s.setMover m).slots = s.slots := rfl
@[simp] theorem State.setMover_arb (m : Mover) : (s.setMover m).arb = { s.arb with mover := m } := rfl
@[simp] theorem State.setMover_mem (m : Mover) : (s.setMover m).mem = s.mem := rfl
@[simp] theorem State.setMover_bufArb (m : Mover) : (s.setMover m).bufArb = s.bufArb := rfl
@[simp] theorem State.setMover_fences (m : Mover) : (s.setMover m).fences = s.fences := rfl
@[simp] theorem State.setMover_ports (m : Mover) : (s.setMover m).ports = s.ports := rfl
@[simp] theorem State.setMover_triggers (m : Mover) : (s.setMover m).triggers = s.triggers := rfl
@[simp] theorem State.setMover_events (m : Mover) : (s.setMover m).events = s.events := rfl
@[simp] theorem State.setMover_reports (m : Mover) : (s.setMover m).reports = s.reports := rfl
@[simp] theorem State.setMover_pending (m : Mover) : (s.setMover m).pending = s.pending := rfl

/-! ### setStack -/

@[simp] theorem State.setStack_phase (st : List Suspended) : (s.setStack st).phase = s.phase := rfl
@[simp] theorem State.setStack_link (st : List Suspended) : (s.setStack st).link = s.link := rfl
@[simp] theorem State.setStack_legs (st : List Suspended) : (s.setStack st).legs = s.legs := rfl
@[simp] theorem State.setStack_slots (st : List Suspended) : (s.setStack st).slots = s.slots := rfl
@[simp] theorem State.setStack_arb (st : List Suspended) : (s.setStack st).arb = { s.arb with stack := st } := rfl
@[simp] theorem State.setStack_mem (st : List Suspended) : (s.setStack st).mem = s.mem := rfl
@[simp] theorem State.setStack_bufArb (st : List Suspended) : (s.setStack st).bufArb = s.bufArb := rfl
@[simp] theorem State.setStack_fences (st : List Suspended) : (s.setStack st).fences = s.fences := rfl
@[simp] theorem State.setStack_ports (st : List Suspended) : (s.setStack st).ports = s.ports := rfl
@[simp] theorem State.setStack_triggers (st : List Suspended) : (s.setStack st).triggers = s.triggers := rfl
@[simp] theorem State.setStack_events (st : List Suspended) : (s.setStack st).events = s.events := rfl
@[simp] theorem State.setStack_reports (st : List Suspended) : (s.setStack st).reports = s.reports := rfl
@[simp] theorem State.setStack_pending (st : List Suspended) : (s.setStack st).pending = s.pending := rfl

/-! ### updLink -/

@[simp] theorem State.updLink_phase (f : Link → Link) : (s.updLink f).phase = s.phase := rfl
@[simp] theorem State.updLink_link (f : Link → Link) : (s.updLink f).link = f s.link := rfl
@[simp] theorem State.updLink_legs (f : Link → Link) : (s.updLink f).legs = s.legs := rfl
@[simp] theorem State.updLink_slots (f : Link → Link) : (s.updLink f).slots = s.slots := rfl
@[simp] theorem State.updLink_arb (f : Link → Link) : (s.updLink f).arb = s.arb := rfl
@[simp] theorem State.updLink_mem (f : Link → Link) : (s.updLink f).mem = s.mem := rfl
@[simp] theorem State.updLink_bufArb (f : Link → Link) : (s.updLink f).bufArb = s.bufArb := rfl
@[simp] theorem State.updLink_fences (f : Link → Link) : (s.updLink f).fences = s.fences := rfl
@[simp] theorem State.updLink_ports (f : Link → Link) : (s.updLink f).ports = s.ports := rfl
@[simp] theorem State.updLink_triggers (f : Link → Link) : (s.updLink f).triggers = s.triggers := rfl
@[simp] theorem State.updLink_events (f : Link → Link) : (s.updLink f).events = s.events := rfl
@[simp] theorem State.updLink_reports (f : Link → Link) : (s.updLink f).reports = s.reports := rfl
@[simp] theorem State.updLink_pending (f : Link → Link) : (s.updLink f).pending = s.pending := rfl

/-! ### count -/

@[simp] theorem State.count_phase (f : Counters → Counters) : (s.count f).phase = s.phase := rfl
@[simp] theorem State.count_link (f : Counters → Counters) : (s.count f).link = { s.link with counters := f s.link.counters } := rfl
@[simp] theorem State.count_legs (f : Counters → Counters) : (s.count f).legs = s.legs := rfl
@[simp] theorem State.count_slots (f : Counters → Counters) : (s.count f).slots = s.slots := rfl
@[simp] theorem State.count_arb (f : Counters → Counters) : (s.count f).arb = s.arb := rfl
@[simp] theorem State.count_mem (f : Counters → Counters) : (s.count f).mem = s.mem := rfl
@[simp] theorem State.count_bufArb (f : Counters → Counters) : (s.count f).bufArb = s.bufArb := rfl
@[simp] theorem State.count_fences (f : Counters → Counters) : (s.count f).fences = s.fences := rfl
@[simp] theorem State.count_ports (f : Counters → Counters) : (s.count f).ports = s.ports := rfl
@[simp] theorem State.count_triggers (f : Counters → Counters) : (s.count f).triggers = s.triggers := rfl
@[simp] theorem State.count_events (f : Counters → Counters) : (s.count f).events = s.events := rfl
@[simp] theorem State.count_reports (f : Counters → Counters) : (s.count f).reports = s.reports := rfl
@[simp] theorem State.count_pending (f : Counters → Counters) : (s.count f).pending = s.pending := rfl

/-! ### updReports -/

@[simp] theorem State.updReports_phase (f : ReportQueue → ReportQueue) : (s.updReports f).phase = s.phase := rfl
@[simp] theorem State.updReports_link (f : ReportQueue → ReportQueue) : (s.updReports f).link = s.link := rfl
@[simp] theorem State.updReports_legs (f : ReportQueue → ReportQueue) : (s.updReports f).legs = s.legs := rfl
@[simp] theorem State.updReports_slots (f : ReportQueue → ReportQueue) : (s.updReports f).slots = s.slots := rfl
@[simp] theorem State.updReports_arb (f : ReportQueue → ReportQueue) : (s.updReports f).arb = s.arb := rfl
@[simp] theorem State.updReports_mem (f : ReportQueue → ReportQueue) : (s.updReports f).mem = s.mem := rfl
@[simp] theorem State.updReports_bufArb (f : ReportQueue → ReportQueue) : (s.updReports f).bufArb = s.bufArb := rfl
@[simp] theorem State.updReports_fences (f : ReportQueue → ReportQueue) : (s.updReports f).fences = s.fences := rfl
@[simp] theorem State.updReports_ports (f : ReportQueue → ReportQueue) : (s.updReports f).ports = s.ports := rfl
@[simp] theorem State.updReports_triggers (f : ReportQueue → ReportQueue) : (s.updReports f).triggers = s.triggers := rfl
@[simp] theorem State.updReports_events (f : ReportQueue → ReportQueue) : (s.updReports f).events = s.events := rfl
@[simp] theorem State.updReports_reports (f : ReportQueue → ReportQueue) : (s.updReports f).reports = f s.reports := rfl
@[simp] theorem State.updReports_pending (f : ReportQueue → ReportQueue) : (s.updReports f).pending = s.pending := rfl

/-! ### setLegState -/

@[simp] theorem State.setLegState_phase (i : SlotIx) (l : LegIx) (st : LegState) : (s.setLegState i l st).phase = s.phase := rfl
@[simp] theorem State.setLegState_link (i : SlotIx) (l : LegIx) (st : LegState) : (s.setLegState i l st).link = s.link := rfl
@[simp] theorem State.setLegState_legs (i : SlotIx) (l : LegIx) (st : LegState) : (s.setLegState i l st).legs = s.legs := rfl
@[simp] theorem State.setLegState_slots (i : SlotIx) (l : LegIx) (st : LegState) :
    (s.setLegState i l st).slots = s.slots.set i { s.slot i with standing := .inLeg l st } := rfl
@[simp] theorem State.setLegState_arb (i : SlotIx) (l : LegIx) (st : LegState) : (s.setLegState i l st).arb = s.arb := rfl
@[simp] theorem State.setLegState_mem (i : SlotIx) (l : LegIx) (st : LegState) : (s.setLegState i l st).mem = s.mem := rfl
@[simp] theorem State.setLegState_bufArb (i : SlotIx) (l : LegIx) (st : LegState) : (s.setLegState i l st).bufArb = s.bufArb := rfl
@[simp] theorem State.setLegState_fences (i : SlotIx) (l : LegIx) (st : LegState) : (s.setLegState i l st).fences = s.fences := rfl
@[simp] theorem State.setLegState_ports (i : SlotIx) (l : LegIx) (st : LegState) : (s.setLegState i l st).ports = s.ports := rfl
@[simp] theorem State.setLegState_triggers (i : SlotIx) (l : LegIx) (st : LegState) :
    (s.setLegState i l st).triggers = s.triggers := rfl
@[simp] theorem State.setLegState_events (i : SlotIx) (l : LegIx) (st : LegState) : (s.setLegState i l st).events = s.events := rfl
@[simp] theorem State.setLegState_reports (i : SlotIx) (l : LegIx) (st : LegState) :
    (s.setLegState i l st).reports = s.reports := rfl
@[simp] theorem State.setLegState_pending (i : SlotIx) (l : LegIx) (st : LegState) :
    (s.setLegState i l st).pending = s.pending := rfl

/-! ### setWord -/

@[simp] theorem State.setWord_phase (a : Addr) (w : BufWord) : (s.setWord a w).phase = s.phase := rfl
@[simp] theorem State.setWord_link (a : Addr) (w : BufWord) : (s.setWord a w).link = s.link := rfl
@[simp] theorem State.setWord_legs (a : Addr) (w : BufWord) : (s.setWord a w).legs = s.legs := rfl
@[simp] theorem State.setWord_slots (a : Addr) (w : BufWord) : (s.setWord a w).slots = s.slots := rfl
@[simp] theorem State.setWord_arb (a : Addr) (w : BufWord) : (s.setWord a w).arb = s.arb := rfl
@[simp] theorem State.setWord_mem (a : Addr) (w : BufWord) : (s.setWord a w).mem = memWrite s.mem a.toNat w := rfl
@[simp] theorem State.setWord_bufArb (a : Addr) (w : BufWord) : (s.setWord a w).bufArb = s.bufArb := rfl
@[simp] theorem State.setWord_fences (a : Addr) (w : BufWord) : (s.setWord a w).fences = s.fences := rfl
@[simp] theorem State.setWord_ports (a : Addr) (w : BufWord) : (s.setWord a w).ports = s.ports := rfl
@[simp] theorem State.setWord_triggers (a : Addr) (w : BufWord) : (s.setWord a w).triggers = s.triggers := rfl
@[simp] theorem State.setWord_events (a : Addr) (w : BufWord) : (s.setWord a w).events = s.events := rfl
@[simp] theorem State.setWord_reports (a : Addr) (w : BufWord) : (s.setWord a w).reports = s.reports := rfl
@[simp] theorem State.setWord_pending (a : Addr) (w : BufWord) : (s.setWord a w).pending = s.pending := rfl

/-! ### writeWord -/

@[simp] theorem State.writeWord_phase (a : Addr) (v : Word) : (s.writeWord a v).phase = s.phase := rfl
@[simp] theorem State.writeWord_link (a : Addr) (v : Word) : (s.writeWord a v).link = s.link := rfl
@[simp] theorem State.writeWord_legs (a : Addr) (v : Word) : (s.writeWord a v).legs = s.legs := rfl
@[simp] theorem State.writeWord_slots (a : Addr) (v : Word) : (s.writeWord a v).slots = s.slots := rfl
@[simp] theorem State.writeWord_arb (a : Addr) (v : Word) : (s.writeWord a v).arb = s.arb := rfl
@[simp] theorem State.writeWord_mem (a : Addr) (v : Word) : (s.writeWord a v).mem = memWrite s.mem a.toNat (.good v) := rfl
@[simp] theorem State.writeWord_bufArb (a : Addr) (v : Word) : (s.writeWord a v).bufArb = s.bufArb := rfl
@[simp] theorem State.writeWord_fences (a : Addr) (v : Word) : (s.writeWord a v).fences = s.fences := rfl
@[simp] theorem State.writeWord_ports (a : Addr) (v : Word) : (s.writeWord a v).ports = s.ports := rfl
@[simp] theorem State.writeWord_triggers (a : Addr) (v : Word) : (s.writeWord a v).triggers = s.triggers := rfl
@[simp] theorem State.writeWord_events (a : Addr) (v : Word) : (s.writeWord a v).events = s.events := rfl
@[simp] theorem State.writeWord_reports (a : Addr) (v : Word) : (s.writeWord a v).reports = s.reports := rfl
@[simp] theorem State.writeWord_pending (a : Addr) (v : Word) : (s.writeWord a v).pending = s.pending := rfl

/-! ### report -/

@[simp] theorem State.report_phase (b : ReportBody) : (s.report b).phase = s.phase := rfl
@[simp] theorem State.report_link (b : ReportBody) : (s.report b).link = s.link := rfl
@[simp] theorem State.report_legs (b : ReportBody) : (s.report b).legs = s.legs := rfl
@[simp] theorem State.report_slots (b : ReportBody) : (s.report b).slots = s.slots := rfl
@[simp] theorem State.report_arb (b : ReportBody) : (s.report b).arb = s.arb := rfl
@[simp] theorem State.report_mem (b : ReportBody) : (s.report b).mem = s.mem := rfl
@[simp] theorem State.report_bufArb (b : ReportBody) : (s.report b).bufArb = s.bufArb := rfl
@[simp] theorem State.report_fences (b : ReportBody) : (s.report b).fences = s.fences := rfl
@[simp] theorem State.report_ports (b : ReportBody) : (s.report b).ports = s.ports := rfl
@[simp] theorem State.report_triggers (b : ReportBody) : (s.report b).triggers = s.triggers := rfl
@[simp] theorem State.report_events (b : ReportBody) : (s.report b).events = s.events := rfl
@[simp] theorem State.report_reports (b : ReportBody) : (s.report b).reports = s.reports.take b := rfl
@[simp] theorem State.report_pending (b : ReportBody) : (s.report b).pending = s.pending := rfl

/-! ### answer -/

@[simp] theorem State.answer_phase (r : Request) (rep : Reply) : (s.answer r rep).phase = s.phase := rfl
@[simp] theorem State.answer_link (r : Request) (rep : Reply) :
    (s.answer r rep).link = { s.link with executing := none, replies := s.link.replies ++ [rep.frame r.kind r.tag], cache := cacheAdd s.link.cache { tag := r.tag, crc := r.crc, reply := rep.frame r.kind r.tag } } := rfl
@[simp] theorem State.answer_legs (r : Request) (rep : Reply) : (s.answer r rep).legs = s.legs := rfl
@[simp] theorem State.answer_slots (r : Request) (rep : Reply) : (s.answer r rep).slots = s.slots := rfl
@[simp] theorem State.answer_arb (r : Request) (rep : Reply) : (s.answer r rep).arb = s.arb := rfl
@[simp] theorem State.answer_mem (r : Request) (rep : Reply) : (s.answer r rep).mem = s.mem := rfl
@[simp] theorem State.answer_bufArb (r : Request) (rep : Reply) : (s.answer r rep).bufArb = s.bufArb := rfl
@[simp] theorem State.answer_fences (r : Request) (rep : Reply) : (s.answer r rep).fences = s.fences := rfl
@[simp] theorem State.answer_ports (r : Request) (rep : Reply) : (s.answer r rep).ports = s.ports := rfl
@[simp] theorem State.answer_triggers (r : Request) (rep : Reply) : (s.answer r rep).triggers = s.triggers := rfl
@[simp] theorem State.answer_events (r : Request) (rep : Reply) : (s.answer r rep).events = s.events := rfl
@[simp] theorem State.answer_reports (r : Request) (rep : Reply) : (s.answer r rep).reports = s.reports := rfl
@[simp] theorem State.answer_pending (r : Request) (rep : Reply) : (s.answer r rep).pending = s.pending := rfl

/-! ### holdEngine -/

@[simp] theorem State.holdEngine_phase (r : Request) (w : Wait) : (s.holdEngine r w).phase = s.phase := rfl
@[simp] theorem State.holdEngine_link (r : Request) (w : Wait) :
    (s.holdEngine r w).link = { s.link with executing := some { request := r, waits := w, reportsAtTake := s.reports.queue.length } } := rfl
@[simp] theorem State.holdEngine_legs (r : Request) (w : Wait) : (s.holdEngine r w).legs = s.legs := rfl
@[simp] theorem State.holdEngine_slots (r : Request) (w : Wait) : (s.holdEngine r w).slots = s.slots := rfl
@[simp] theorem State.holdEngine_arb (r : Request) (w : Wait) : (s.holdEngine r w).arb = s.arb := rfl
@[simp] theorem State.holdEngine_mem (r : Request) (w : Wait) : (s.holdEngine r w).mem = s.mem := rfl
@[simp] theorem State.holdEngine_bufArb (r : Request) (w : Wait) : (s.holdEngine r w).bufArb = s.bufArb := rfl
@[simp] theorem State.holdEngine_fences (r : Request) (w : Wait) : (s.holdEngine r w).fences = s.fences := rfl
@[simp] theorem State.holdEngine_ports (r : Request) (w : Wait) : (s.holdEngine r w).ports = s.ports := rfl
@[simp] theorem State.holdEngine_triggers (r : Request) (w : Wait) : (s.holdEngine r w).triggers = s.triggers := rfl
@[simp] theorem State.holdEngine_events (r : Request) (w : Wait) : (s.holdEngine r w).events = s.events := rfl
@[simp] theorem State.holdEngine_reports (r : Request) (w : Wait) : (s.holdEngine r w).reports = s.reports := rfl
@[simp] theorem State.holdEngine_pending (r : Request) (w : Wait) : (s.holdEngine r w).pending = s.pending := rfl

/-! ### pin -/

@[simp] theorem State.pin_phase (l : LegIx) : (s.pin l).phase = s.phase := rfl
@[simp] theorem State.pin_link (l : LegIx) : (s.pin l).link = s.link := rfl
@[simp] theorem State.pin_legs (l : LegIx) : (s.pin l).legs = s.legs.set l { s.leg l with pins := (s.leg l).pins + 1 } := rfl
@[simp] theorem State.pin_slots (l : LegIx) : (s.pin l).slots = s.slots := rfl
@[simp] theorem State.pin_arb (l : LegIx) : (s.pin l).arb = s.arb := rfl
@[simp] theorem State.pin_mem (l : LegIx) : (s.pin l).mem = s.mem := rfl
@[simp] theorem State.pin_bufArb (l : LegIx) : (s.pin l).bufArb = s.bufArb := rfl
@[simp] theorem State.pin_fences (l : LegIx) : (s.pin l).fences = s.fences := rfl
@[simp] theorem State.pin_ports (l : LegIx) : (s.pin l).ports = s.ports := rfl
@[simp] theorem State.pin_triggers (l : LegIx) : (s.pin l).triggers = s.triggers := rfl
@[simp] theorem State.pin_events (l : LegIx) : (s.pin l).events = s.events := rfl
@[simp] theorem State.pin_reports (l : LegIx) : (s.pin l).reports = s.reports := rfl
@[simp] theorem State.pin_pending (l : LegIx) : (s.pin l).pending = s.pending := rfl

/-! ### unpin -/

@[simp] theorem State.unpin_phase (l : LegIx) : (s.unpin l).phase = s.phase := rfl
@[simp] theorem State.unpin_link (l : LegIx) : (s.unpin l).link = s.link := rfl
@[simp] theorem State.unpin_legs (l : LegIx) : (s.unpin l).legs = s.legs.set l { s.leg l with pins := (s.leg l).pins - 1 } := rfl
@[simp] theorem State.unpin_slots (l : LegIx) : (s.unpin l).slots = s.slots := rfl
@[simp] theorem State.unpin_arb (l : LegIx) : (s.unpin l).arb = s.arb := rfl
@[simp] theorem State.unpin_mem (l : LegIx) : (s.unpin l).mem = s.mem := rfl
@[simp] theorem State.unpin_bufArb (l : LegIx) : (s.unpin l).bufArb = s.bufArb := rfl
@[simp] theorem State.unpin_fences (l : LegIx) : (s.unpin l).fences = s.fences := rfl
@[simp] theorem State.unpin_ports (l : LegIx) : (s.unpin l).ports = s.ports := rfl
@[simp] theorem State.unpin_triggers (l : LegIx) : (s.unpin l).triggers = s.triggers := rfl
@[simp] theorem State.unpin_events (l : LegIx) : (s.unpin l).events = s.events := rfl
@[simp] theorem State.unpin_reports (l : LegIx) : (s.unpin l).reports = s.reports := rfl
@[simp] theorem State.unpin_pending (l : LegIx) : (s.unpin l).pending = s.pending := rfl

/-! ### Lookups -/

/-- A lookup in a table after one entry was set. -/
theorem Vector.get_set_fin {α : Type} {n : Nat} (v : Vector α n) (i j : Fin n) (x : α) :
    (v.set i x).get j = if i = j then x else v.get j := by
  simp only [Vector.get_eq_getElem, Vector.getElem_set, Fin.ext_iff]

theorem State.slot_updSlot (i j : SlotIx) (f : Slot → Slot) :
    (s.updSlot i f).slot j = if i = j then f (s.slot i) else s.slot j := Vector.get_set_fin _ _ _ _

theorem State.leg_updLeg (l m : LegIx) (f : LegEntry → LegEntry) :
    (s.updLeg l f).leg m = if l = m then f (s.leg l) else s.leg m := Vector.get_set_fin _ _ _ _

theorem State.port_updPort (p q : PortIx) (f : Port → Port) :
    (s.updPort p f).port q = if p = q then f (s.port p) else s.port q := Vector.get_set_fin _ _ _ _

theorem State.trigger_setTrigger (k j : TrigIx) (t : Trigger) :
    (s.setTrigger k t).trigger j = if k = j then t else s.trigger j := Vector.get_set_fin _ _ _ _

theorem State.fence_setFence (k j : FenceIx) (f : Fence) :
    (s.setFence k f).fence j = if k = j then f else s.fence j := Vector.get_set_fin _ _ _ _

theorem State.slot_setLegState (i j : SlotIx) (l : LegIx) (st : LegState) :
    (s.setLegState i l st).slot j = if i = j then { s.slot i with standing := .inLeg l st } else s.slot j :=
  State.slot_updSlot s i j _

@[simp] theorem State.slot_updSlot_same (i : SlotIx) (f : Slot → Slot) : (s.updSlot i f).slot i = f (s.slot i) := by
  simp [State.slot_updSlot]

@[simp] theorem State.slot_updSlot_ne {i j : SlotIx} (h : i ≠ j) (f : Slot → Slot) : (s.updSlot i f).slot j = s.slot j := by
  simp [State.slot_updSlot, h]

@[simp] theorem State.leg_updLeg_same (l : LegIx) (f : LegEntry → LegEntry) : (s.updLeg l f).leg l = f (s.leg l) := by
  simp [State.leg_updLeg]

@[simp] theorem State.leg_updLeg_ne {l m : LegIx} (h : l ≠ m) (f : LegEntry → LegEntry) :
    (s.updLeg l f).leg m = s.leg m := by
  simp [State.leg_updLeg, h]

@[simp] theorem State.port_updPort_same (p : PortIx) (f : Port → Port) : (s.updPort p f).port p = f (s.port p) := by
  simp [State.port_updPort]

@[simp] theorem State.port_updPort_ne {p q : PortIx} (h : p ≠ q) (f : Port → Port) :
    (s.updPort p f).port q = s.port q := by
  simp [State.port_updPort, h]

/-! ### Lookups through an update of another block -/

@[simp] theorem State.leg_updSlot (i : SlotIx) (f : Slot → Slot) (j : LegIx) : (s.updSlot i f).leg j = s.leg j := rfl
@[simp] theorem State.port_updSlot (i : SlotIx) (f : Slot → Slot) (j : PortIx) : (s.updSlot i f).port j = s.port j := rfl
@[simp] theorem State.trigger_updSlot (i : SlotIx) (f : Slot → Slot) (j : TrigIx) : (s.updSlot i f).trigger j = s.trigger j := rfl
@[simp] theorem State.fence_updSlot (i : SlotIx) (f : Slot → Slot) (j : FenceIx) : (s.updSlot i f).fence j = s.fence j := rfl
@[simp] theorem State.word_updSlot (i : SlotIx) (f : Slot → Slot) (a : Addr) : (s.updSlot i f).word a = s.word a := rfl
@[simp] theorem State.slot_updLeg (l : LegIx) (f : LegEntry → LegEntry) (j : SlotIx) : (s.updLeg l f).slot j = s.slot j := rfl
@[simp] theorem State.port_updLeg (l : LegIx) (f : LegEntry → LegEntry) (j : PortIx) : (s.updLeg l f).port j = s.port j := rfl
@[simp] theorem State.trigger_updLeg (l : LegIx) (f : LegEntry → LegEntry) (j : TrigIx) : (s.updLeg l f).trigger j = s.trigger j := rfl
@[simp] theorem State.fence_updLeg (l : LegIx) (f : LegEntry → LegEntry) (j : FenceIx) : (s.updLeg l f).fence j = s.fence j := rfl
@[simp] theorem State.word_updLeg (l : LegIx) (f : LegEntry → LegEntry) (a : Addr) : (s.updLeg l f).word a = s.word a := rfl
@[simp] theorem State.slot_updPort (p : PortIx) (f : Port → Port) (j : SlotIx) : (s.updPort p f).slot j = s.slot j := rfl
@[simp] theorem State.leg_updPort (p : PortIx) (f : Port → Port) (j : LegIx) : (s.updPort p f).leg j = s.leg j := rfl
@[simp] theorem State.trigger_updPort (p : PortIx) (f : Port → Port) (j : TrigIx) : (s.updPort p f).trigger j = s.trigger j := rfl
@[simp] theorem State.fence_updPort (p : PortIx) (f : Port → Port) (j : FenceIx) : (s.updPort p f).fence j = s.fence j := rfl
@[simp] theorem State.word_updPort (p : PortIx) (f : Port → Port) (a : Addr) : (s.updPort p f).word a = s.word a := rfl
@[simp] theorem State.slot_setTrigger (k : TrigIx) (t : Trigger) (j : SlotIx) : (s.setTrigger k t).slot j = s.slot j := rfl
@[simp] theorem State.leg_setTrigger (k : TrigIx) (t : Trigger) (j : LegIx) : (s.setTrigger k t).leg j = s.leg j := rfl
@[simp] theorem State.port_setTrigger (k : TrigIx) (t : Trigger) (j : PortIx) : (s.setTrigger k t).port j = s.port j := rfl
@[simp] theorem State.fence_setTrigger (k : TrigIx) (t : Trigger) (j : FenceIx) : (s.setTrigger k t).fence j = s.fence j := rfl
@[simp] theorem State.word_setTrigger (k : TrigIx) (t : Trigger) (a : Addr) : (s.setTrigger k t).word a = s.word a := rfl
@[simp] theorem State.slot_setFence (k : FenceIx) (f : Fence) (j : SlotIx) : (s.setFence k f).slot j = s.slot j := rfl
@[simp] theorem State.leg_setFence (k : FenceIx) (f : Fence) (j : LegIx) : (s.setFence k f).leg j = s.leg j := rfl
@[simp] theorem State.port_setFence (k : FenceIx) (f : Fence) (j : PortIx) : (s.setFence k f).port j = s.port j := rfl
@[simp] theorem State.trigger_setFence (k : FenceIx) (f : Fence) (j : TrigIx) : (s.setFence k f).trigger j = s.trigger j := rfl
@[simp] theorem State.word_setFence (k : FenceIx) (f : Fence) (a : Addr) : (s.setFence k f).word a = s.word a := rfl
@[simp] theorem State.slot_setMover (m : Mover) (j : SlotIx) : (s.setMover m).slot j = s.slot j := rfl
@[simp] theorem State.leg_setMover (m : Mover) (j : LegIx) : (s.setMover m).leg j = s.leg j := rfl
@[simp] theorem State.port_setMover (m : Mover) (j : PortIx) : (s.setMover m).port j = s.port j := rfl
@[simp] theorem State.trigger_setMover (m : Mover) (j : TrigIx) : (s.setMover m).trigger j = s.trigger j := rfl
@[simp] theorem State.fence_setMover (m : Mover) (j : FenceIx) : (s.setMover m).fence j = s.fence j := rfl
@[simp] theorem State.word_setMover (m : Mover) (a : Addr) : (s.setMover m).word a = s.word a := rfl
@[simp] theorem State.slot_setStack (st : List Suspended) (j : SlotIx) : (s.setStack st).slot j = s.slot j := rfl
@[simp] theorem State.leg_setStack (st : List Suspended) (j : LegIx) : (s.setStack st).leg j = s.leg j := rfl
@[simp] theorem State.port_setStack (st : List Suspended) (j : PortIx) : (s.setStack st).port j = s.port j := rfl
@[simp] theorem State.trigger_setStack (st : List Suspended) (j : TrigIx) : (s.setStack st).trigger j = s.trigger j := rfl
@[simp] theorem State.fence_setStack (st : List Suspended) (j : FenceIx) : (s.setStack st).fence j = s.fence j := rfl
@[simp] theorem State.word_setStack (st : List Suspended) (a : Addr) : (s.setStack st).word a = s.word a := rfl
@[simp] theorem State.slot_updLink (f : Link → Link) (j : SlotIx) : (s.updLink f).slot j = s.slot j := rfl
@[simp] theorem State.leg_updLink (f : Link → Link) (j : LegIx) : (s.updLink f).leg j = s.leg j := rfl
@[simp] theorem State.port_updLink (f : Link → Link) (j : PortIx) : (s.updLink f).port j = s.port j := rfl
@[simp] theorem State.trigger_updLink (f : Link → Link) (j : TrigIx) : (s.updLink f).trigger j = s.trigger j := rfl
@[simp] theorem State.fence_updLink (f : Link → Link) (j : FenceIx) : (s.updLink f).fence j = s.fence j := rfl
@[simp] theorem State.word_updLink (f : Link → Link) (a : Addr) : (s.updLink f).word a = s.word a := rfl
@[simp] theorem State.slot_count (f : Counters → Counters) (j : SlotIx) : (s.count f).slot j = s.slot j := rfl
@[simp] theorem State.leg_count (f : Counters → Counters) (j : LegIx) : (s.count f).leg j = s.leg j := rfl
@[simp] theorem State.port_count (f : Counters → Counters) (j : PortIx) : (s.count f).port j = s.port j := rfl
@[simp] theorem State.trigger_count (f : Counters → Counters) (j : TrigIx) : (s.count f).trigger j = s.trigger j := rfl
@[simp] theorem State.fence_count (f : Counters → Counters) (j : FenceIx) : (s.count f).fence j = s.fence j := rfl
@[simp] theorem State.word_count (f : Counters → Counters) (a : Addr) : (s.count f).word a = s.word a := rfl
@[simp] theorem State.slot_updReports (f : ReportQueue → ReportQueue) (j : SlotIx) : (s.updReports f).slot j = s.slot j := rfl
@[simp] theorem State.leg_updReports (f : ReportQueue → ReportQueue) (j : LegIx) : (s.updReports f).leg j = s.leg j := rfl
@[simp] theorem State.port_updReports (f : ReportQueue → ReportQueue) (j : PortIx) : (s.updReports f).port j = s.port j := rfl
@[simp] theorem State.trigger_updReports (f : ReportQueue → ReportQueue) (j : TrigIx) : (s.updReports f).trigger j = s.trigger j := rfl
@[simp] theorem State.fence_updReports (f : ReportQueue → ReportQueue) (j : FenceIx) : (s.updReports f).fence j = s.fence j := rfl
@[simp] theorem State.word_updReports (f : ReportQueue → ReportQueue) (a : Addr) : (s.updReports f).word a = s.word a := rfl
@[simp] theorem State.leg_setLegState (i : SlotIx) (l : LegIx) (st : LegState) (j : LegIx) : (s.setLegState i l st).leg j = s.leg j := rfl
@[simp] theorem State.port_setLegState (i : SlotIx) (l : LegIx) (st : LegState) (j : PortIx) : (s.setLegState i l st).port j = s.port j := rfl
@[simp] theorem State.trigger_setLegState (i : SlotIx) (l : LegIx) (st : LegState) (j : TrigIx) : (s.setLegState i l st).trigger j = s.trigger j := rfl
@[simp] theorem State.fence_setLegState (i : SlotIx) (l : LegIx) (st : LegState) (j : FenceIx) : (s.setLegState i l st).fence j = s.fence j := rfl
@[simp] theorem State.word_setLegState (i : SlotIx) (l : LegIx) (st : LegState) (a : Addr) : (s.setLegState i l st).word a = s.word a := rfl
@[simp] theorem State.slot_setWord (a : Addr) (w : BufWord) (j : SlotIx) : (s.setWord a w).slot j = s.slot j := rfl
@[simp] theorem State.leg_setWord (a : Addr) (w : BufWord) (j : LegIx) : (s.setWord a w).leg j = s.leg j := rfl
@[simp] theorem State.port_setWord (a : Addr) (w : BufWord) (j : PortIx) : (s.setWord a w).port j = s.port j := rfl
@[simp] theorem State.trigger_setWord (a : Addr) (w : BufWord) (j : TrigIx) : (s.setWord a w).trigger j = s.trigger j := rfl
@[simp] theorem State.fence_setWord (a : Addr) (w : BufWord) (j : FenceIx) : (s.setWord a w).fence j = s.fence j := rfl
@[simp] theorem State.slot_writeWord (a : Addr) (v : Word) (j : SlotIx) : (s.writeWord a v).slot j = s.slot j := rfl
@[simp] theorem State.leg_writeWord (a : Addr) (v : Word) (j : LegIx) : (s.writeWord a v).leg j = s.leg j := rfl
@[simp] theorem State.port_writeWord (a : Addr) (v : Word) (j : PortIx) : (s.writeWord a v).port j = s.port j := rfl
@[simp] theorem State.trigger_writeWord (a : Addr) (v : Word) (j : TrigIx) : (s.writeWord a v).trigger j = s.trigger j := rfl
@[simp] theorem State.fence_writeWord (a : Addr) (v : Word) (j : FenceIx) : (s.writeWord a v).fence j = s.fence j := rfl
@[simp] theorem State.slot_report (b : ReportBody) (j : SlotIx) : (s.report b).slot j = s.slot j := rfl
@[simp] theorem State.leg_report (b : ReportBody) (j : LegIx) : (s.report b).leg j = s.leg j := rfl
@[simp] theorem State.port_report (b : ReportBody) (j : PortIx) : (s.report b).port j = s.port j := rfl
@[simp] theorem State.trigger_report (b : ReportBody) (j : TrigIx) : (s.report b).trigger j = s.trigger j := rfl
@[simp] theorem State.fence_report (b : ReportBody) (j : FenceIx) : (s.report b).fence j = s.fence j := rfl
@[simp] theorem State.word_report (b : ReportBody) (a : Addr) : (s.report b).word a = s.word a := rfl
@[simp] theorem State.slot_answer (r : Request) (rep : Reply) (j : SlotIx) : (s.answer r rep).slot j = s.slot j := rfl
@[simp] theorem State.leg_answer (r : Request) (rep : Reply) (j : LegIx) : (s.answer r rep).leg j = s.leg j := rfl
@[simp] theorem State.port_answer (r : Request) (rep : Reply) (j : PortIx) : (s.answer r rep).port j = s.port j := rfl
@[simp] theorem State.trigger_answer (r : Request) (rep : Reply) (j : TrigIx) : (s.answer r rep).trigger j = s.trigger j := rfl
@[simp] theorem State.fence_answer (r : Request) (rep : Reply) (j : FenceIx) : (s.answer r rep).fence j = s.fence j := rfl
@[simp] theorem State.word_answer (r : Request) (rep : Reply) (a : Addr) : (s.answer r rep).word a = s.word a := rfl
@[simp] theorem State.slot_holdEngine (r : Request) (w : Wait) (j : SlotIx) : (s.holdEngine r w).slot j = s.slot j := rfl
@[simp] theorem State.leg_holdEngine (r : Request) (w : Wait) (j : LegIx) : (s.holdEngine r w).leg j = s.leg j := rfl
@[simp] theorem State.port_holdEngine (r : Request) (w : Wait) (j : PortIx) : (s.holdEngine r w).port j = s.port j := rfl
@[simp] theorem State.trigger_holdEngine (r : Request) (w : Wait) (j : TrigIx) : (s.holdEngine r w).trigger j = s.trigger j := rfl
@[simp] theorem State.fence_holdEngine (r : Request) (w : Wait) (j : FenceIx) : (s.holdEngine r w).fence j = s.fence j := rfl
@[simp] theorem State.word_holdEngine (r : Request) (w : Wait) (a : Addr) : (s.holdEngine r w).word a = s.word a := rfl
@[simp] theorem State.slot_pin (l : LegIx) (j : SlotIx) : (s.pin l).slot j = s.slot j := rfl
@[simp] theorem State.port_pin (l : LegIx) (j : PortIx) : (s.pin l).port j = s.port j := rfl
@[simp] theorem State.trigger_pin (l : LegIx) (j : TrigIx) : (s.pin l).trigger j = s.trigger j := rfl
@[simp] theorem State.fence_pin (l : LegIx) (j : FenceIx) : (s.pin l).fence j = s.fence j := rfl
@[simp] theorem State.word_pin (l : LegIx) (a : Addr) : (s.pin l).word a = s.word a := rfl
@[simp] theorem State.slot_unpin (l : LegIx) (j : SlotIx) : (s.unpin l).slot j = s.slot j := rfl
@[simp] theorem State.port_unpin (l : LegIx) (j : PortIx) : (s.unpin l).port j = s.port j := rfl
@[simp] theorem State.trigger_unpin (l : LegIx) (j : TrigIx) : (s.unpin l).trigger j = s.trigger j := rfl
@[simp] theorem State.fence_unpin (l : LegIx) (j : FenceIx) : (s.unpin l).fence j = s.fence j := rfl
@[simp] theorem State.word_unpin (l : LegIx) (a : Addr) : (s.unpin l).word a = s.word a := rfl

end Sys2Proof.Machine
end

