-- ==== Sys2Proof/Laws/Memory.lean ====
section
/-! SUPPORT. The buffer memory: a read after a write, and the canonical form that every write keeps. -/

namespace Sys2Proof.Machine

/-- A listed address of a memory in canonical form lies above every address below its head. -/
theorem memRead_below {m : List (Nat × BufWord)} (h : memWf m = true) {a : Nat}
    (ha : ∀ p, m.head? = some p → a < p.1) : memRead m a = BufWord.unlisted := by
  induction m with
  | nil => rfl
  | cons p m ih =>
    obtain ⟨b, v⟩ := p
    have hb : a < b := ha (b, v) rfl
    have hne : a ≠ b := Nat.ne_of_lt hb
    simp only [memRead, hne, if_false]
    cases m with
    | nil => rfl
    | cons q m =>
      obtain ⟨c, w⟩ := q
      simp only [memWf, Bool.and_eq_true, decide_eq_true_eq] at h
      refine ih h.2 fun p hp => ?_
      simp only [List.head?_cons, Option.some.injEq] at hp
      subst hp
      exact Nat.lt_trans hb h.1.2

/-- What a buffer word reads as after a write: the word written at its address, and as before elsewhere. -/
theorem memRead_memWrite {m : List (Nat × BufWord)} (h : memWf m = true) (a b : Nat) (w : BufWord) :
    memRead (memWrite m a w) b = if b = a then w else memRead m b := by
  induction m with
  | nil =>
    by_cases hw : w = BufWord.unlisted <;> by_cases hb : b = a <;> simp [memWrite, memRead, hw, hb]
  | cons p m ih =>
    obtain ⟨c, v⟩ := p
    have hm : memWf m = true := by
      cases m with
      | nil => rfl
      | cons q m => simp only [memWf, Bool.and_eq_true] at h; exact h.2
    have hbelow : ∀ x, x ≤ c → memRead m x = BufWord.unlisted := by
      intro x hx
      refine memRead_below hm fun p hp => ?_
      cases m with
      | nil => simp at hp
      | cons q m =>
        simp only [List.head?_cons, Option.some.injEq] at hp
        subst hp
        simp only [memWf, Bool.and_eq_true, decide_eq_true_eq] at h
        exact Nat.lt_of_le_of_lt hx h.1.2
    simp only [memWrite]
    split
    · next hac =>
      have hne : ¬ a = c := Nat.ne_of_lt hac
      split
      · next hw =>
        by_cases hb : b = a
        · subst hb; simp [memRead, hne, hw, hbelow _ (Nat.le_of_lt hac)]
        · simp [hb]
      · by_cases hb : b = a <;> simp [memRead, hb]
    · split
      · next hac =>
        subst hac
        split
        · next hw =>
          by_cases hb : b = a
          · subst hb; simp [hw, hbelow _ (Nat.le_refl _)]
          · simp [memRead, hb]
        · by_cases hb : b = a <;> simp [memRead, hb]
      · next hlt hac =>
        by_cases hbc : b = c
        · subst hbc
          simp [memRead, Ne.symm hac]
        · simp [memRead, hbc, ih hm]

/-- The addresses below a bound stay below it in the head of a written memory. -/
theorem memWf_memWrite_cons {m : List (Nat × BufWord)} {a c : Nat} {v w : BufWord} (h : memWf ((c, v) :: m) = true)
    (ha : a < 65536) (hca : c < a) (ih : memWf (memWrite m a w) = true) : memWf ((c, v) :: memWrite m a w) = true := by
  have hhead : c < 65536 ∧ v ≠ BufWord.unlisted := by
    cases m with
    | nil => simpa [memWf] using h
    | cons q m => simp only [memWf, Bool.and_eq_true, decide_eq_true_eq] at h; exact h.1.1
  cases m with
  | nil =>
    by_cases hw : w = BufWord.unlisted
    · simpa [memWrite, hw, memWf] using hhead
    · simp [memWrite, hw, memWf, hhead, ha, hca]
  | cons q m =>
    obtain ⟨d, x⟩ := q
    have hcd : c < d := by simp only [memWf, Bool.and_eq_true, decide_eq_true_eq] at h; exact h.1.2
    have hrest : memWf ((d, x) :: m) = true := by simp only [memWf, Bool.and_eq_true] at h; exact h.2
    revert ih
    simp only [memWrite]
    split
    · split
      · intro; exact h
      · intro ih; simp [memWf, hhead, hca]; simpa [memWf] using ih
    · split
      · split
        · intro ih
          cases m with
          | nil => simpa [memWf] using hhead
          | cons r m =>
            obtain ⟨e, y⟩ := r
            simp only [memWf, Bool.and_eq_true, decide_eq_true_eq] at hrest ⊢
            exact ⟨⟨hhead, Nat.lt_trans hcd hrest.1.2⟩, ih⟩
        · intro ih; simp only [memWf, Bool.and_eq_true, decide_eq_true_eq]; exact ⟨⟨hhead, hca⟩, ih⟩
      · intro ih; simp only [memWf, Bool.and_eq_true, decide_eq_true_eq]; exact ⟨⟨hhead, hcd⟩, ih⟩

/-- Every write keeps the canonical form. -/
theorem memWf_memWrite {m : List (Nat × BufWord)} (h : memWf m = true) {a : Nat} (ha : a < 65536) (w : BufWord) :
    memWf (memWrite m a w) = true := by
  induction m with
  | nil => by_cases hw : w = BufWord.unlisted <;> simp [memWrite, memWf, hw, ha]
  | cons p m ih =>
    obtain ⟨c, v⟩ := p
    have hm : memWf m = true := by
      cases m with
      | nil => rfl
      | cons q m => simp only [memWf, Bool.and_eq_true] at h; exact h.2
    have hcons := @memWf_memWrite_cons m a c v w h ha
    simp only [memWrite]
    split
    · next hac =>
      split
      · exact h
      · next hw => simp only [memWf, Bool.and_eq_true, decide_eq_true_eq]; exact ⟨⟨⟨ha, hw⟩, hac⟩, h⟩
    · split
      · next hac =>
        subst hac
        split
        · exact hm
        · next hw =>
          cases m with
          | nil => simp [memWf, ha, hw]
          | cons q m =>
            simp only [memWf, Bool.and_eq_true, decide_eq_true_eq] at h ⊢
            exact ⟨⟨⟨ha, hw⟩, h.1.2⟩, h.2⟩
      · next h1 h2 => exact hcons (by omega) (ih hm)

/-- What a buffer word reads as after a range was zeroed: a good zero in the range, and as before elsewhere. -/
theorem memRead_memZero (m : List (Nat × BufWord)) (lo hi a : Nat) :
    memRead (memZero m lo hi) a = if lo ≤ a ∧ a < hi then .good 0 else memRead m a := by
  induction m with
  | nil => simp [memZero, memRead, BufWord.unlisted]
  | cons p m ih =>
    obtain ⟨b, v⟩ := p
    unfold memZero at ih ⊢
    by_cases hb : lo ≤ b ∧ b < hi
    · rw [List.filter_cons_of_neg (by simp [hb]), ih]
      by_cases ha : a = b
      · subst ha; simp [hb]
      · simp [memRead, ha]
    · rw [List.filter_cons_of_pos (by simp; omega)]
      by_cases ha : a = b
      · subst ha; simp [memRead, hb]
      · rw [memRead, if_neg ha, ih, memRead, if_neg ha]

/-- The canonical form, told of the head and of the rest apart. -/
theorem memWf_cons {a : Nat} {w : BufWord} {m : List (Nat × BufWord)} :
    memWf ((a, w) :: m) = true ↔ a < 65536 ∧ w ≠ BufWord.unlisted ∧ (∀ p ∈ m, a < p.1) ∧ memWf m = true := by
  induction m generalizing a w with
  | nil => simp [memWf]
  | cons q m ih =>
    obtain ⟨b, v⟩ := q
    simp only [memWf, Bool.and_eq_true, decide_eq_true_eq, List.mem_cons, forall_eq_or_imp]
    constructor
    · rintro ⟨⟨⟨h1, h2⟩, h3⟩, h4⟩
      exact ⟨h1, h2, ⟨h3, fun p hp => Nat.lt_trans h3 ((ih.1 h4).2.2.1 p hp)⟩, h4⟩
    · rintro ⟨h1, h2, ⟨h3, -⟩, h4⟩
      exact ⟨⟨⟨h1, h2⟩, h3⟩, h4⟩

/-- Zeroing a range keeps the canonical form. -/
theorem memWf_memZero {m : List (Nat × BufWord)} (h : memWf m = true) (lo hi : Nat) : memWf (memZero m lo hi) = true := by
  induction m with
  | nil => rfl
  | cons p m ih =>
    obtain ⟨b, v⟩ := p
    obtain ⟨h1, h2, h3, h4⟩ := memWf_cons.1 h
    unfold memZero at ih ⊢
    rw [List.filter_cons]
    split
    · exact memWf_cons.2 ⟨h1, h2, fun p hp => h3 p (List.mem_of_mem_filter hp), ih h4⟩
    · exact ih h4

/-- The memory after reset has the canonical form. -/
theorem reset_memWf : memWf State.reset.mem = true := rfl

/-- A word of the part after a word was replaced. -/
theorem State.word_setWord {s : State} (h : memWf s.mem = true) (a b : Addr) (w : BufWord) :
    (s.setWord a w).word b = if b = a then w else s.word b := by
  simp only [State.word, State.setWord, memRead_memWrite h, BitVec.toNat_inj]

/-- Replacing a word keeps the canonical form. -/
theorem State.memWf_setWord {s : State} (h : memWf s.mem = true) (a : Addr) (w : BufWord) :
    memWf (s.setWord a w).mem = true := memWf_memWrite h a.isLt w

/-- Writing a block keeps the canonical form. -/
theorem State.memWf_writeWords (ws : List Word) {s : State} (h : memWf s.mem = true) (a : Addr) :
    memWf (s.writeWords a ws).mem = true := by
  induction ws generalizing s a with
  | nil => exact h
  | cons w ws ih => exact ih (State.memWf_setWord h a _) (a + 1)

/-- A block written changes the memory and nothing else. -/
theorem State.writeWords_frame (ws : List Word) (s : State) (a : Addr) :
    s.writeWords a ws = { s with mem := (s.writeWords a ws).mem } := by
  induction ws generalizing s a with
  | nil => rfl
  | cons w ws ih => simp only [State.writeWords]; rw [ih (s.writeWord a w) (a + 1)]; rfl

end Sys2Proof.Machine
end

