-- ==== Sys2Proof/Laws/Transfer.lean ====
section
/-! SUPPORT. The frames of the transfer side's shared operations: one lemma each, naming every block the operation leaves
as it was. -/

namespace Sys2Proof.Machine

variable (s : State)

/-- An element comes into flight (R146) leaves every block but the bufArb as it was. -/
@[simp] theorem State.elementBegins_frame :
    (s.elementBegins).phase = s.phase ∧
    (s.elementBegins).link = s.link ∧
    (s.elementBegins).legs = s.legs ∧
    (s.elementBegins).slots = s.slots ∧
    (s.elementBegins).arb = s.arb ∧
    (s.elementBegins).mem = s.mem ∧
    (s.elementBegins).fences = s.fences ∧
    (s.elementBegins).ports = s.ports ∧
    (s.elementBegins).triggers = s.triggers ∧
    (s.elementBegins).events = s.events ∧
    (s.elementBegins).reports = s.reports ∧
    (s.elementBegins).pending = s.pending := by
  unfold State.elementBegins
  repeat' split
  all_goals simp

/-- A grant of the mover (R75) leaves every block but the slots, arb, bufArb as it was. -/
@[simp] theorem State.grant_frame (i : SlotIx) :
    (s.grant i).phase = s.phase ∧
    (s.grant i).link = s.link ∧
    (s.grant i).legs = s.legs ∧
    (s.grant i).mem = s.mem ∧
    (s.grant i).fences = s.fences ∧
    (s.grant i).ports = s.ports ∧
    (s.grant i).triggers = s.triggers ∧
    (s.grant i).events = s.events ∧
    (s.grant i).reports = s.reports ∧
    (s.grant i).pending = s.pending := by
  unfold State.grant
  repeat' split
  all_goals simp

/-- A pop of the stack (R83) leaves every block but the slots, arb, bufArb as it was. -/
@[simp] theorem State.pop_frame (top : Suspended) (rest : List Suspended) :
    (s.pop top rest).phase = s.phase ∧
    (s.pop top rest).link = s.link ∧
    (s.pop top rest).legs = s.legs ∧
    (s.pop top rest).mem = s.mem ∧
    (s.pop top rest).fences = s.fences ∧
    (s.pop top rest).ports = s.ports ∧
    (s.pop top rest).triggers = s.triggers ∧
    (s.pop top rest).events = s.events ∧
    (s.pop top rest).reports = s.reports ∧
    (s.pop top rest).pending = s.pending := by
  unfold State.pop
  repeat' split
  all_goals simp

/-- The selection at a release (R81, R82) leaves every block but the slots, arb, bufArb as it was. -/
@[simp] theorem State.select_frame :
    (s.select).phase = s.phase ∧
    (s.select).link = s.link ∧
    (s.select).legs = s.legs ∧
    (s.select).mem = s.mem ∧
    (s.select).fences = s.fences ∧
    (s.select).ports = s.ports ∧
    (s.select).triggers = s.triggers ∧
    (s.select).events = s.events ∧
    (s.select).reports = s.reports ∧
    (s.select).pending = s.pending := by
  unfold State.select
  repeat' split
  all_goals simp

/-- An evaluation of eligibility (R37) leaves every block but the slots, arb, bufArb as it was. -/
@[simp] theorem State.evaluate_frame (i : SlotIx) :
    (s.evaluate i).phase = s.phase ∧
    (s.evaluate i).link = s.link ∧
    (s.evaluate i).legs = s.legs ∧
    (s.evaluate i).mem = s.mem ∧
    (s.evaluate i).fences = s.fences ∧
    (s.evaluate i).ports = s.ports ∧
    (s.evaluate i).triggers = s.triggers ∧
    (s.evaluate i).events = s.events ∧
    (s.evaluate i).reports = s.reports ∧
    (s.evaluate i).pending = s.pending := by
  unfold State.evaluate
  repeat' split
  all_goals simp

/-- A rise of a request condition (R132) leaves every block but the slots, arb, bufArb as it was. -/
@[simp] theorem State.signal_frame (p : PortIx) (was : Bool) :
    (s.signal p was).phase = s.phase ∧
    (s.signal p was).link = s.link ∧
    (s.signal p was).legs = s.legs ∧
    (s.signal p was).mem = s.mem ∧
    (s.signal p was).fences = s.fences ∧
    (s.signal p was).ports = s.ports ∧
    (s.signal p was).triggers = s.triggers ∧
    (s.signal p was).events = s.events ∧
    (s.signal p was).reports = s.reports ∧
    (s.signal p was).pending = s.pending := by
  unfold State.signal
  repeat' split
  all_goals simp

/-- An accepted FENCE-SET (R150) leaves every block but the bufArb, fences as it was. -/
@[simp] theorem State.takeFence_frame (k : FenceIx) (f : Fence) :
    (s.takeFence k f).phase = s.phase ∧
    (s.takeFence k f).link = s.link ∧
    (s.takeFence k f).legs = s.legs ∧
    (s.takeFence k f).slots = s.slots ∧
    (s.takeFence k f).arb = s.arb ∧
    (s.takeFence k f).mem = s.mem ∧
    (s.takeFence k f).ports = s.ports ∧
    (s.takeFence k f).triggers = s.triggers ∧
    (s.takeFence k f).events = s.events ∧
    (s.takeFence k f).reports = s.reports ∧
    (s.takeFence k f).pending = s.pending := by
  unfold State.takeFence
  simp

/-- The preemption check (R78) leaves every block but the slots, arb, bufArb as it was. -/
@[simp] theorem State.preemptionCheck_frame (a : SlotIx) (l : LegIx) (snap : Snapshot) :
    (s.preemptionCheck a l snap).phase = s.phase ∧
    (s.preemptionCheck a l snap).link = s.link ∧
    (s.preemptionCheck a l snap).legs = s.legs ∧
    (s.preemptionCheck a l snap).mem = s.mem ∧
    (s.preemptionCheck a l snap).fences = s.fences ∧
    (s.preemptionCheck a l snap).ports = s.ports ∧
    (s.preemptionCheck a l snap).triggers = s.triggers ∧
    (s.preemptionCheck a l snap).events = s.events ∧
    (s.preemptionCheck a l snap).reports = s.reports ∧
    (s.preemptionCheck a l snap).pending = s.pending := by
  unfold State.preemptionCheck
  repeat' split
  all_goals simp

/-- A host block's ask (R146) leaves every block but the bufArb as it was. -/
@[simp] theorem State.blockAsks_frame (o : AskOrder) :
    (s.blockAsks o).phase = s.phase ∧
    (s.blockAsks o).link = s.link ∧
    (s.blockAsks o).legs = s.legs ∧
    (s.blockAsks o).slots = s.slots ∧
    (s.blockAsks o).arb = s.arb ∧
    (s.blockAsks o).mem = s.mem ∧
    (s.blockAsks o).fences = s.fences ∧
    (s.blockAsks o).ports = s.ports ∧
    (s.blockAsks o).triggers = s.triggers ∧
    (s.blockAsks o).events = s.events ∧
    (s.blockAsks o).reports = s.reports ∧
    (s.blockAsks o).pending = s.pending := by
  unfold State.blockAsks
  repeat' split
  all_goals simp

/-- The port words of a rolled-back burst (R67) leaves every block but the ports as it was. -/
@[simp] theorem State.settleBack_frame (l : LegIx) :
    (s.settleBack l).phase = s.phase ∧
    (s.settleBack l).link = s.link ∧
    (s.settleBack l).legs = s.legs ∧
    (s.settleBack l).slots = s.slots ∧
    (s.settleBack l).arb = s.arb ∧
    (s.settleBack l).mem = s.mem ∧
    (s.settleBack l).bufArb = s.bufArb ∧
    (s.settleBack l).fences = s.fences ∧
    (s.settleBack l).triggers = s.triggers ∧
    (s.settleBack l).events = s.events ∧
    (s.settleBack l).reports = s.reports ∧
    (s.settleBack l).pending = s.pending := by
  unfold State.settleBack
  repeat' split
  all_goals simp

/-- A rollback (R67) leaves every block but the slots, ports as it was. -/
@[simp] theorem State.rollback_frame (i : SlotIx) (l : LegIx) (snap : Snapshot) :
    (s.rollback i l snap).phase = s.phase ∧
    (s.rollback i l snap).link = s.link ∧
    (s.rollback i l snap).legs = s.legs ∧
    (s.rollback i l snap).arb = s.arb ∧
    (s.rollback i l snap).mem = s.mem ∧
    (s.rollback i l snap).bufArb = s.bufArb ∧
    (s.rollback i l snap).fences = s.fences ∧
    (s.rollback i l snap).triggers = s.triggers ∧
    (s.rollback i l snap).events = s.events ∧
    (s.rollback i l snap).reports = s.reports ∧
    (s.rollback i l snap).pending = s.pending := by
  unfold State.rollback
  simp

/-- The port words of a committed burst (R60) leaves every block but the ports as it was. -/
@[simp] theorem State.settleCommit_frame (l : LegIx) :
    (s.settleCommit l).phase = s.phase ∧
    (s.settleCommit l).link = s.link ∧
    (s.settleCommit l).legs = s.legs ∧
    (s.settleCommit l).slots = s.slots ∧
    (s.settleCommit l).arb = s.arb ∧
    (s.settleCommit l).mem = s.mem ∧
    (s.settleCommit l).bufArb = s.bufArb ∧
    (s.settleCommit l).fences = s.fences ∧
    (s.settleCommit l).triggers = s.triggers ∧
    (s.settleCommit l).events = s.events ∧
    (s.settleCommit l).reports = s.reports ∧
    (s.settleCommit l).pending = s.pending := by
  unfold State.settleCommit
  repeat' split
  all_goals simp

/-- A slot event passed (R109) leaves every block but the events as it was. -/
@[simp] theorem State.pass_frame (k : EventKind) (i : SlotIx) :
    (s.pass k i).phase = s.phase ∧
    (s.pass k i).link = s.link ∧
    (s.pass k i).legs = s.legs ∧
    (s.pass k i).slots = s.slots ∧
    (s.pass k i).arb = s.arb ∧
    (s.pass k i).mem = s.mem ∧
    (s.pass k i).bufArb = s.bufArb ∧
    (s.pass k i).fences = s.fences ∧
    (s.pass k i).ports = s.ports ∧
    (s.pass k i).triggers = s.triggers ∧
    (s.pass k i).reports = s.reports ∧
    (s.pass k i).pending = s.pending := by
  unfold State.pass
  repeat' split
  all_goals simp

/-- A hold at a burst boundary (R41, R66) leaves every block but the slots, reports as it was. -/
@[simp] theorem State.becomeHeld_frame (i : SlotIx) (l : LegIx) :
    (s.becomeHeld i l).phase = s.phase ∧
    (s.becomeHeld i l).link = s.link ∧
    (s.becomeHeld i l).legs = s.legs ∧
    (s.becomeHeld i l).arb = s.arb ∧
    (s.becomeHeld i l).mem = s.mem ∧
    (s.becomeHeld i l).bufArb = s.bufArb ∧
    (s.becomeHeld i l).fences = s.fences ∧
    (s.becomeHeld i l).ports = s.ports ∧
    (s.becomeHeld i l).triggers = s.triggers ∧
    (s.becomeHeld i l).events = s.events ∧
    (s.becomeHeld i l).pending = s.pending := by
  unfold State.becomeHeld
  simp

/-- An entry to FAULTED (R92) leaves every block but the slots, events, reports as it was. -/
@[simp] theorem State.enterFaulted_frame (i : SlotIx) (l : LegIx) (c : FaultCause) (e : Nat) :
    (s.enterFaulted i l c e).phase = s.phase ∧
    (s.enterFaulted i l c e).link = s.link ∧
    (s.enterFaulted i l c e).legs = s.legs ∧
    (s.enterFaulted i l c e).arb = s.arb ∧
    (s.enterFaulted i l c e).mem = s.mem ∧
    (s.enterFaulted i l c e).bufArb = s.bufArb ∧
    (s.enterFaulted i l c e).fences = s.fences ∧
    (s.enterFaulted i l c e).ports = s.ports ∧
    (s.enterFaulted i l c e).triggers = s.triggers ∧
    (s.enterFaulted i l c e).pending = s.pending := by
  unfold State.enterFaulted
  repeat' split
  all_goals simp

/-- A slot goes on with its leg (R38) leaves every block but the slots, arb, bufArb as it was. -/
@[simp] theorem State.goOn_frame (i : SlotIx) (l : LegIx) (c : Bool) :
    (s.goOn i l c).phase = s.phase ∧
    (s.goOn i l c).link = s.link ∧
    (s.goOn i l c).legs = s.legs ∧
    (s.goOn i l c).mem = s.mem ∧
    (s.goOn i l c).fences = s.fences ∧
    (s.goOn i l c).ports = s.ports ∧
    (s.goOn i l c).triggers = s.triggers ∧
    (s.goOn i l c).events = s.events ∧
    (s.goOn i l c).reports = s.reports ∧
    (s.goOn i l c).pending = s.pending := by
  unfold State.goOn
  repeat' split
  all_goals simp

/-- A chain end (R46) leaves every block but the legs, slots, events, reports as it was. -/
@[simp] theorem State.chainEnds_frame (i : SlotIx) (l : LegIx) :
    (s.chainEnds i l).phase = s.phase ∧
    (s.chainEnds i l).link = s.link ∧
    (s.chainEnds i l).arb = s.arb ∧
    (s.chainEnds i l).mem = s.mem ∧
    (s.chainEnds i l).bufArb = s.bufArb ∧
    (s.chainEnds i l).fences = s.fences ∧
    (s.chainEnds i l).ports = s.ports ∧
    (s.chainEnds i l).triggers = s.triggers ∧
    (s.chainEnds i l).pending = s.pending := by
  unfold State.chainEnds
  simp

/-- The entry of NEXT (R66) leaves every block but the legs, slots, arb, bufArb, reports as it was. -/
@[simp] theorem State.entersNext_frame (i : SlotIx) (l : LegIx) (r : LegRecord) (n : LegIx) (rn : LegRecord) (c : Bool) :
    (s.entersNext i l r n rn c).phase = s.phase ∧
    (s.entersNext i l r n rn c).link = s.link ∧
    (s.entersNext i l r n rn c).mem = s.mem ∧
    (s.entersNext i l r n rn c).fences = s.fences ∧
    (s.entersNext i l r n rn c).ports = s.ports ∧
    (s.entersNext i l r n rn c).triggers = s.triggers ∧
    (s.entersNext i l r n rn c).events = s.events ∧
    (s.entersNext i l r n rn c).pending = s.pending := by
  unfold State.entersNext
  repeat' split
  all_goals simp

/-- Step 3 of leg-end processing (R64–R66) leaves every block but the legs, slots, arb, bufArb, events, reports as it was. -/
@[simp] theorem State.legEndStep3_frame (i : SlotIx) (l : LegIx) (r : LegRecord) (c : Bool) :
    (s.legEndStep3 i l r c).phase = s.phase ∧
    (s.legEndStep3 i l r c).link = s.link ∧
    (s.legEndStep3 i l r c).mem = s.mem ∧
    (s.legEndStep3 i l r c).fences = s.fences ∧
    (s.legEndStep3 i l r c).ports = s.ports ∧
    (s.legEndStep3 i l r c).triggers = s.triggers ∧
    (s.legEndStep3 i l r c).pending = s.pending := by
  unfold State.legEndStep3
  repeat' split
  all_goals simp

/-- Step 2 of leg-end processing (R63) leaves every block but the legs, slots, arb, bufArb, events, reports as it was. -/
@[simp] theorem State.legEndStep2_frame (i : SlotIx) (l : LegIx) (r : LegRecord) (c : Bool) :
    (s.legEndStep2 i l r c).phase = s.phase ∧
    (s.legEndStep2 i l r c).link = s.link ∧
    (s.legEndStep2 i l r c).mem = s.mem ∧
    (s.legEndStep2 i l r c).fences = s.fences ∧
    (s.legEndStep2 i l r c).ports = s.ports ∧
    (s.legEndStep2 i l r c).triggers = s.triggers ∧
    (s.legEndStep2 i l r c).pending = s.pending := by
  unfold State.legEndStep2
  repeat' split
  all_goals simp

/-- Step 1 of leg-end processing (R62) leaves every block but the legs, slots, arb, bufArb, events, reports as it was. -/
@[simp] theorem State.legEndStep1_frame (i : SlotIx) (l : LegIx) (r : LegRecord) :
    (s.legEndStep1 i l r).phase = s.phase ∧
    (s.legEndStep1 i l r).link = s.link ∧
    (s.legEndStep1 i l r).mem = s.mem ∧
    (s.legEndStep1 i l r).fences = s.fences ∧
    (s.legEndStep1 i l r).ports = s.ports ∧
    (s.legEndStep1 i l r).triggers = s.triggers ∧
    (s.legEndStep1 i l r).pending = s.pending := by
  unfold State.legEndStep1
  repeat' split
  all_goals simp

/-- Step 5 of a commit (R61) leaves every block but the events, reports as it was. -/
@[simp] theorem State.markStep_frame (i : SlotIx) (l : LegIx) (r : LegRecord) :
    (s.markStep i l r).phase = s.phase ∧
    (s.markStep i l r).link = s.link ∧
    (s.markStep i l r).legs = s.legs ∧
    (s.markStep i l r).slots = s.slots ∧
    (s.markStep i l r).arb = s.arb ∧
    (s.markStep i l r).mem = s.mem ∧
    (s.markStep i l r).bufArb = s.bufArb ∧
    (s.markStep i l r).fences = s.fences ∧
    (s.markStep i l r).ports = s.ports ∧
    (s.markStep i l r).triggers = s.triggers ∧
    (s.markStep i l r).pending = s.pending := by
  unfold State.markStep
  repeat' split
  all_goals simp

/-- Steps 7 and 8 of a commit (R59) leaves every block but the legs, slots, arb, bufArb, events, reports as it was. -/
@[simp] theorem State.afterBurst_frame (i : SlotIx) (l : LegIx) (r : LegRecord) :
    (s.afterBurst i l r).phase = s.phase ∧
    (s.afterBurst i l r).link = s.link ∧
    (s.afterBurst i l r).mem = s.mem ∧
    (s.afterBurst i l r).fences = s.fences ∧
    (s.afterBurst i l r).ports = s.ports ∧
    (s.afterBurst i l r).triggers = s.triggers ∧
    (s.afterBurst i l r).pending = s.pending := by
  unfold State.afterBurst
  repeat' split
  all_goals simp

/-- A burst commit (R59) leaves every block but the legs, slots, arb, bufArb, ports, events, reports as it was. -/
@[simp] theorem State.commit_frame (i : SlotIx) (l : LegIx) (r : LegRecord) :
    (s.commit i l r).phase = s.phase ∧
    (s.commit i l r).link = s.link ∧
    (s.commit i l r).mem = s.mem ∧
    (s.commit i l r).fences = s.fences ∧
    (s.commit i l r).triggers = s.triggers ∧
    (s.commit i l r).pending = s.pending := by
  unfold State.commit
  simp

/-- A slot with a leg becomes IDLE (R44) leaves every block but the legs, slots, reports as it was. -/
@[simp] theorem State.idleFrom_frame (i : SlotIx) (l : LegIx) (e : Nat) :
    (s.idleFrom i l e).phase = s.phase ∧
    (s.idleFrom i l e).link = s.link ∧
    (s.idleFrom i l e).arb = s.arb ∧
    (s.idleFrom i l e).mem = s.mem ∧
    (s.idleFrom i l e).bufArb = s.bufArb ∧
    (s.idleFrom i l e).fences = s.fences ∧
    (s.idleFrom i l e).ports = s.ports ∧
    (s.idleFrom i l e).triggers = s.triggers ∧
    (s.idleFrom i l e).events = s.events ∧
    (s.idleFrom i l e).pending = s.pending := by
  unfold State.idleFrom
  simp

/-- A DONE slot becomes IDLE (R44) leaves every block but the slots, reports as it was. -/
@[simp] theorem State.idleFromDone_frame (i : SlotIx) :
    (s.idleFromDone i).phase = s.phase ∧
    (s.idleFromDone i).link = s.link ∧
    (s.idleFromDone i).legs = s.legs ∧
    (s.idleFromDone i).arb = s.arb ∧
    (s.idleFromDone i).mem = s.mem ∧
    (s.idleFromDone i).bufArb = s.bufArb ∧
    (s.idleFromDone i).fences = s.fences ∧
    (s.idleFromDone i).ports = s.ports ∧
    (s.idleFromDone i).triggers = s.triggers ∧
    (s.idleFromDone i).events = s.events ∧
    (s.idleFromDone i).pending = s.pending := by
  unfold State.idleFromDone
  simp

/-- A cancel from the stack (R85) leaves every block but the legs, slots, arb, ports, reports as it was. -/
@[simp] theorem State.cancelSuspended_frame (i : SlotIx) (l : LegIx) :
    (s.cancelSuspended i l).phase = s.phase ∧
    (s.cancelSuspended i l).link = s.link ∧
    (s.cancelSuspended i l).mem = s.mem ∧
    (s.cancelSuspended i l).bufArb = s.bufArb ∧
    (s.cancelSuspended i l).fences = s.fences ∧
    (s.cancelSuspended i l).triggers = s.triggers ∧
    (s.cancelSuspended i l).events = s.events ∧
    (s.cancelSuspended i l).pending = s.pending := by
  unfold State.cancelSuspended
  cases s.stackSnapshot i <;> simp

/-- A cancel of a slot that is not ACTIVE (R44) leaves every block but the legs, slots, arb, ports, reports as it was. -/
@[simp] theorem State.cancelAtOnce_frame (i : SlotIx) :
    (s.cancelAtOnce i).phase = s.phase ∧
    (s.cancelAtOnce i).link = s.link ∧
    (s.cancelAtOnce i).mem = s.mem ∧
    (s.cancelAtOnce i).bufArb = s.bufArb ∧
    (s.cancelAtOnce i).fences = s.fences ∧
    (s.cancelAtOnce i).triggers = s.triggers ∧
    (s.cancelAtOnce i).events = s.events ∧
    (s.cancelAtOnce i).pending = s.pending := by
  unfold State.cancelAtOnce
  repeat' split
  all_goals simp

/-- A waiting cancel (R45) leaves every block but the link, legs, slots, arb, ports, reports as it was. -/
@[simp] theorem State.cancelWaiting_frame :
    (s.cancelWaiting).phase = s.phase ∧
    (s.cancelWaiting).mem = s.mem ∧
    (s.cancelWaiting).bufArb = s.bufArb ∧
    (s.cancelWaiting).fences = s.fences ∧
    (s.cancelWaiting).triggers = s.triggers ∧
    (s.cancelWaiting).events = s.events ∧
    (s.cancelWaiting).pending = s.pending := by
  unfold State.cancelWaiting
  repeat' split
  all_goals simp

/-- The end of a release (R45, R81) leaves every block but the link, legs, slots, arb, bufArb, ports, reports as it was. -/
@[simp] theorem State.release_frame :
    (s.release).phase = s.phase ∧
    (s.release).mem = s.mem ∧
    (s.release).fences = s.fences ∧
    (s.release).triggers = s.triggers ∧
    (s.release).events = s.events ∧
    (s.release).pending = s.pending := by
  unfold State.release
  simp

/-- The release of a burst's end (R45, R84, R110) leaves every block but the link, legs, slots, arb, bufArb, ports, reports as it was. -/
@[simp] theorem State.releaseAt_frame (c n : Nat) :
    (s.releaseAt c n).phase = s.phase ∧
    (s.releaseAt c n).mem = s.mem ∧
    (s.releaseAt c n).fences = s.fences ∧
    (s.releaseAt c n).triggers = s.triggers ∧
    (s.releaseAt c n).events = s.events ∧
    (s.releaseAt c n).pending = s.pending := by
  unfold State.releaseAt
  repeat' split
  all_goals simp

/-- A point of an outstanding release (R45, R84, R110) leaves every block but the link, legs, slots, arb, bufArb, ports, reports as it was. -/
@[simp] theorem State.passPoint_frame :
    (s.passPoint).phase = s.phase ∧
    (s.passPoint).mem = s.mem ∧
    (s.passPoint).fences = s.fences ∧
    (s.passPoint).triggers = s.triggers ∧
    (s.passPoint).events = s.events ∧
    (s.passPoint).pending = s.pending := by
  unfold State.passPoint
  repeat' split
  all_goals simp

/-- The rollbacks of the slots on the stack touch the slots and the ports alone (R68). -/
@[simp] theorem State.rollbackStack_frame (st : List Suspended) : 
    (s.rollbackStack st).phase = s.phase ∧
    (s.rollbackStack st).link = s.link ∧
    (s.rollbackStack st).legs = s.legs ∧
    (s.rollbackStack st).arb = s.arb ∧
    (s.rollbackStack st).mem = s.mem ∧
    (s.rollbackStack st).bufArb = s.bufArb ∧
    (s.rollbackStack st).fences = s.fences ∧
    (s.rollbackStack st).triggers = s.triggers ∧
    (s.rollbackStack st).events = s.events ∧
    (s.rollbackStack st).reports = s.reports ∧
    (s.rollbackStack st).pending = s.pending := by
  induction st generalizing s with
  | nil => simp [State.rollbackStack]
  | cons e st ih =>
    unfold State.rollbackStack
    split <;> simp [ih]

/-- The rollbacks of ENGINE-RESET (R68) leaves every block but the slots, ports as it was. -/
@[simp] theorem State.rollbackAll_frame :
    (s.rollbackAll).phase = s.phase ∧
    (s.rollbackAll).link = s.link ∧
    (s.rollbackAll).legs = s.legs ∧
    (s.rollbackAll).arb = s.arb ∧
    (s.rollbackAll).mem = s.mem ∧
    (s.rollbackAll).bufArb = s.bufArb ∧
    (s.rollbackAll).fences = s.fences ∧
    (s.rollbackAll).triggers = s.triggers ∧
    (s.rollbackAll).events = s.events ∧
    (s.rollbackAll).reports = s.reports ∧
    (s.rollbackAll).pending = s.pending := by
  unfold State.rollbackAll
  repeat' split
  all_goals simp

/-- Step 3 of ENGINE-RESET (R193) leaves every block but the legs, slots, arb, bufArb, ports, events as it was. -/
@[simp] theorem State.resetBlocks_frame :
    (s.resetBlocks).phase = s.phase ∧
    (s.resetBlocks).link = s.link ∧
    (s.resetBlocks).mem = s.mem ∧
    (s.resetBlocks).fences = s.fences ∧
    (s.resetBlocks).triggers = s.triggers ∧
    (s.resetBlocks).reports = s.reports ∧
    (s.resetBlocks).pending = s.pending := by
  unfold State.resetBlocks
  simp

/-- Steps 2 to 5 of ENGINE-RESET (R193) leaves every block but the link, legs, slots, arb, bufArb, ports, events, reports as it was. -/
@[simp] theorem State.engineReset_frame (r : Request) :
    (s.engineReset r).phase = s.phase ∧
    (s.engineReset r).mem = s.mem ∧
    (s.engineReset r).fences = s.fences ∧
    (s.engineReset r).triggers = s.triggers ∧
    (s.engineReset r).pending = s.pending := by
  unfold State.engineReset
  simp

end Sys2Proof.Machine
end

