-- ==== Sys2Proof/Laws/Ops.lean ====
section
/-! SUPPORT. What the shared operations of Sys2Proof/Machine can do, each said once: the request engine's take and service, the
reply queue, the report queue, the claims on a slot (hold, credits, arm) and the trigger table's firing. -/

namespace Sys2Proof.Machine

variable {s : State}

/-! ## The request engine -/

/-- The engine takes a request exactly when it may (R185): the part runs, no request executes, the reply queue holds fewer than 12
replies, and the oldest inbox request is of the kind. -/
theorem State.takeRequest?_eq_some {k : ReqKind} {r : Request} {t : State} :
    s.takeRequest? k = some (r, t) ↔
      s.phase = .running ∧ s.link.executing = none ∧ s.link.replies.length < Config.replyCap ∧
        ∃ rest, s.link.inbox = r :: rest ∧ r.kind = k ∧ t = s.updLink fun l => { l with inbox := rest } := by
  unfold State.takeRequest?
  split
  · next h =>
    obtain ⟨h1, h2, h3⟩ := h
    split
    · next hi => simp [hi]
    · next q rest hi =>
      split
      · next hk =>
        constructor
        · intro h
          simp only [Option.some.injEq, Prod.mk.injEq] at h
          obtain ⟨rfl, rfl⟩ := h
          exact ⟨h1, h2, h3, rest, hi, hk, rfl⟩
        · rintro ⟨-, -, -, rest', hi', hk', rfl⟩
          rw [hi] at hi'
          obtain ⟨rfl, rfl⟩ := List.cons.inj hi'
          rfl
      · next hk =>
        simp only [reduceCtorEq, false_iff]
        rintro ⟨-, -, -, rest', hi', hk', -⟩
        rw [hi] at hi'
        obtain ⟨rfl, rfl⟩ := List.cons.inj hi'
        exact hk hk'
  · next h =>
    simp only [reduceCtorEq, false_iff]
    rintro ⟨h1, h2, h3, -⟩
    exact h ⟨h1, h2, h3⟩

/-- What a request row comes to: nothing where the engine takes no request of the kind, the engine's own refusal of the body, or what
its owner answers (R185–R187). -/
theorem State.serve_cases (k : ReqKind) (owner : Request → State → Host.Outcome State Fault Refusal) :
    (s.takeRequest? k = none ∧ s.serve k owner = .next s) ∨
    (∃ r t st, s.takeRequest? k = some (r, t) ∧ bodyRefusal? k r.body = some st ∧
      s.serve k owner = .next (t.answer r (Reply.bare st))) ∨
    (∃ r t, s.takeRequest? k = some (r, t) ∧ bodyRefusal? k r.body = none ∧ s.serve k owner = owner r t) := by
  unfold State.serve
  cases h : s.takeRequest? k with
  | none => exact .inl ⟨rfl, rfl⟩
  | some p =>
    obtain ⟨r, t⟩ := p
    cases hb : bodyRefusal? k r.body with
    | some st => exact .inr (.inl ⟨r, t, st, rfl, hb, by simp [hb]⟩)
    | none => exact .inr (.inr ⟨r, t, rfl, hb, by simp [hb]⟩)

/-- A request row whose owner answers at once gives a next state, whatever its body holds. -/
theorem State.serveNow_next (k : ReqKind) (owner : List Byte → State → State × Reply) :
    ∃ t, s.serveNow k owner = .next t := by
  unfold State.serveNow
  rcases s.serve_cases k (fun r t => .next ((owner r.body t).1.answer r (owner r.body t).2)) with
    ⟨-, h⟩ | ⟨r, t, st, -, -, h⟩ | ⟨r, t, -, -, h⟩
  · exact ⟨_, h⟩
  · exact ⟨_, h⟩
  · exact ⟨_, h⟩

/-- The body checks pass exactly when the length is allowed and every unused bit is 0 (R186). -/
theorem bodyRefusal?_eq_none {k : ReqKind} {b : List Byte} :
    bodyRefusal? k b = none ↔ k.lengthOk b.length = true ∧ k.unusedClear b = true := by
  unfold bodyRefusal?
  cases k.lengthOk b.length <;> cases k.unusedClear b <;> simp

/-! ## Replies and reports -/

/-- An immediate reply touches the reply queue and the drop counter alone (R188). -/
theorem State.immediate_cases (f : Frame) :
    (s.link.replies.length + s.link.reserved < Config.replyCap ∧
      s.immediate f = s.updLink fun k => { k with replies := k.replies ++ [f] }) ∨
    (Config.replyCap ≤ s.link.replies.length + s.link.reserved ∧
      s.immediate f = s.count fun c => { c with replyDrops := bump c.replyDrops }) := by
  unfold State.immediate
  split
  · next h => exact .inl ⟨h, rfl⟩
  · next h => exact .inr ⟨Nat.le_of_not_lt h, rfl⟩

/-- A report that reaches the queue is appended with the next SEQ below 32 reports, and counted as lost at 32 (R160). -/
theorem ReportQueue.take_cases (q : ReportQueue) (b : ReportBody) :
    (q.queue.length < 32 ∧
      q.take b = { q with queue := q.queue ++ [{ seq := q.nextSeq, body := b, sent := false }], nextSeq := q.nextSeq + 1 }) ∨
    (32 ≤ q.queue.length ∧ q.take b = { q with lost := bump q.lost }) := by
  unfold ReportQueue.take
  split
  · next h => exact .inl ⟨h, rfl⟩
  · next h => exact .inr ⟨Nat.le_of_not_lt h, rfl⟩

/-! ## Claims on a slot -/

/-- A hold that is taken leaves every block but the slots and the reports as it was (R40). -/
theorem State.hold?_frame {i : SlotIx} {t : State} (h : s.hold? i = some t) :
    t.phase = s.phase ∧ t.link = s.link ∧ t.legs = s.legs ∧ t.arb = s.arb ∧ t.mem = s.mem ∧ t.bufArb = s.bufArb ∧
    t.fences = s.fences ∧ t.ports = s.ports ∧ t.triggers = s.triggers ∧ t.events = s.events ∧ t.pending = s.pending := by
  unfold State.hold? at h
  split at h <;> simp only [Option.some.injEq, reduceCtorEq] at h <;> subst h <;> simp

/-- Credits that are taken leave every block but the slots and the arbiters as it was (R34). -/
theorem State.addCredits_frame {i : SlotIx} {n : Nat} {t : State} (h : s.addCredits i n = .ok t) :
    t.phase = s.phase ∧ t.link = s.link ∧ t.legs = s.legs ∧ t.mem = s.mem ∧ t.fences = s.fences ∧ t.ports = s.ports ∧
    t.triggers = s.triggers ∧ t.events = s.events ∧ t.reports = s.reports ∧ t.pending = s.pending := by
  unfold State.addCredits at h
  repeat' split at h
  all_goals simp only [Except.ok.injEq, reduceCtorEq] at h
  subst h
  simp

/-- An arm that is taken leaves every block but the slots, the pins and the arbiters as it was (R32). -/
theorem State.arm_frame {i : SlotIx} {t : State} (h : s.arm i = .ok t) :
    t.phase = s.phase ∧ t.link = s.link ∧ t.mem = s.mem ∧ t.fences = s.fences ∧ t.ports = s.ports ∧
    t.triggers = s.triggers ∧ t.events = s.events ∧ t.reports = s.reports ∧ t.pending = s.pending := by
  unfold State.arm at h
  repeat' split at h
  all_goals simp only [Except.ok.injEq, reduceCtorEq] at h
  subst h
  simp

/-! ## The fence table of an element -/

/-- An element whose grant an earlier step has fixed is checked against the table of that moment (R53). -/
theorem State.elementFences_fixed {f : Vector Fence 8} (h : s.bufArb.fencesAtGrant = some f) (k : Nat) : s.elementFences k = f := by
  simp [State.elementFences, h]

/-- An element that no FENCE-SET has met in flight is checked against the table as it stands (R53). -/
theorem State.elementFences_unmet (h : s.bufArb.fencesAtGrant = none) (h' : s.bufArb.fencesReplaced = []) (k : Nat) :
    s.elementFences k = s.fences := by
  simp [State.elementFences, h, h']

/-! ## A grant of the mover -/

/-- A burst start leaves the slot ACTIVE in its leg (R50, R75). -/
theorem Slot.burstStart_standing (x : Slot) (l : LegIx) : (x.burstStart l).1.standing = .inLeg l .active := by
  unfold Slot.burstStart
  dsimp only
  repeat' split
  all_goals rfl

/-- The element that a grant brings into flight joins WAITING exactly when its leg uses the buffer and a host block holds the grant; it
leaves the buffer arbiter as it was otherwise (R52, R146, notes/assumptions/5.md). -/
theorem State.grant_bufArb {i : SlotIx} {l : LegIx} {r : LegRecord} (h : (s.slot i).standing = .inLeg l .ready)
    (hr : (s.leg l).record = some r) :
    (s.grant i).bufArb =
      if r.usesBuffer = true ∧ s.bufArb.grant = some .link then { s.bufArb with waiting := some .mover } else s.bufArb := by
  let x := (s.slot i).burstStart l
  let t : State :=
    { s with
      slots := s.slots.set i x.1
      arb := { s.arb with pointers := s.arb.pointers.set (s.slot i).setup.priority i, mover := .busy i x.2 } }
  have hx : t.slot i = x.1 := (Vector.get_set_fin _ _ _ _).trans (if_pos rfl)
  have hl : (t.leg l).record = some r := hr
  have ht : t.bufferInFlight = r.usesBuffer := by
    simp only [State.bufferInFlight, hx, Slot.currentLeg, x, Slot.burstStart_standing, hl, t]
  have hg : s.grant i = t.elementBegins := by simp only [State.grant, h, t, x]
  rw [hg, State.elementBegins, ht]
  split
  · rfl
  · rfl

/-! ## The release -/

/-- A waiting cancel acts at its slot and is answered, and without one nothing changes (R45). -/
theorem State.cancelWaiting_cases :
    (∃ e i, s.link.executing = some e ∧ e.waits = .cancel i ∧
      s.cancelWaiting = (s.cancelAtOnce i).answer e.request (Reply.bare .ok)) ∨
    ((∀ e i, s.link.executing = some e → e.waits ≠ .cancel i) ∧ s.cancelWaiting = s) := by
  unfold State.cancelWaiting
  cases h : s.link.executing with
  | none => simp
  | some e =>
    cases hw : e.waits with
    | cancel i => exact .inl ⟨e, i, rfl, hw, by simp [hw]⟩
    | _ => exact .inr ⟨fun e' i he => by cases he; simp [hw], by simp [hw]⟩

/-- The best ready slot is READY (R73, R74). -/
theorem State.bestReady_standing {q : SlotIx} (h : s.bestReady = some q) : ∃ l, (s.slot q).standing = .inLeg l .ready := by
  have hm := List.mem_of_find?_eq_some h
  simp only [State.readySet, List.mem_filter, Slot.isReady] at hm
  split at hm <;> simp_all

/-- A grant of a READY slot leaves no release outstanding (R75). -/
theorem State.grant_not_releasing {q : SlotIx} (h : ∃ l, (s.slot q).standing = .inLeg l .ready) (c n : Nat) :
    (s.grant q).arb.mover ≠ .releasing c n := by
  obtain ⟨l, h⟩ := h
  simp [State.grant, h]

/-- A pop leaves no release outstanding (R83). -/
theorem State.pop_not_releasing (top : Suspended) (rest : List Suspended) (c n : Nat) :
    (s.pop top rest).arb.mover ≠ .releasing c n := by
  unfold State.pop
  split <;> simp

/-- A selection leaves no release outstanding (R81, R82). -/
theorem State.select_not_releasing (c n : Nat) : s.select.arb.mover ≠ .releasing c n := by
  unfold State.select
  split
  · simp
  · next h => exact State.grant_not_releasing (s := s.setMover .idle) (State.bestReady_standing h) c n
  · exact State.pop_not_releasing _ _ c n
  · next h =>
    split
    · exact State.grant_not_releasing (State.bestReady_standing h) c n
    · exact State.pop_not_releasing _ _ c n

/-! ## The trigger table -/

/-- An action leaves the link, the buffer, the fences, the ports, the entries and the events as they were (R112). -/
theorem State.act_frame (k : TrigIx) (i : SlotIx) (a : Action) :
    (s.act k i a).phase = s.phase ∧ (s.act k i a).link = s.link ∧ (s.act k i a).mem = s.mem ∧
    (s.act k i a).fences = s.fences ∧ (s.act k i a).ports = s.ports ∧ (s.act k i a).triggers = s.triggers ∧
    (s.act k i a).events = s.events ∧ (s.act k i a).pending = s.pending := by
  cases a with
  | start =>
    cases h : s.addCredits i 1 with
    | ok t => have := State.addCredits_frame h; simp [State.act, h, this]
    | error e => simp [State.act, h]
  | arm =>
    cases h : s.arm i with
    | ok t => have := State.arm_frame h; simp [State.act, h, this]
    | error e => simp [State.act, h]
  | hold =>
    cases h : s.hold? i with
    | some t => have := State.hold?_frame h; simp [State.act, h, this]
    | none => simp [State.act, h]

/-- A firing leaves the link, the buffer, the fences, the ports and the events as they were, and of the entries changes at most the one
that fires, whose ENABLED it may clear (R111). -/
theorem State.fireEntry_frame (e : SlotEvent) (k : TrigIx) :
    (s.fireEntry e k).phase = s.phase ∧ (s.fireEntry e k).link = s.link ∧ (s.fireEntry e k).mem = s.mem ∧
    (s.fireEntry e k).fences = s.fences ∧ (s.fireEntry e k).ports = s.ports ∧ (s.fireEntry e k).events = s.events ∧
    (s.fireEntry e k).pending = s.pending ∧
    ∀ j, j ≠ k → (s.fireEntry e k).trigger j = s.trigger j := by
  unfold State.fireEntry
  split
  · split
    · have h := State.act_frame (s := s.setTrigger k { s.trigger k with enabled := false }) k (s.trigger k).target
        (s.trigger k).action
      refine ⟨by simp [h], by simp [h], by simp [h], by simp [h], by simp [h], by simp [h], by simp [h], fun j hj => ?_⟩
      exact (congrArg (fun v => Vector.get v j) h.2.2.2.2.2.1).trans
        ((State.trigger_setTrigger s k j _).trans (if_neg (Ne.symm hj)))
    · have h := State.act_frame (s := s) k (s.trigger k).target (s.trigger k).action
      exact ⟨by simp [h], by simp [h], by simp [h], by simp [h], by simp [h], by simp [h], by simp [h],
        fun j _ => congrArg (fun v => Vector.get v j) h.2.2.2.2.2.1⟩
  · simp

/-- The scan leaves the buffer, the fences and the events as they were (R111, R112); a release that acts on its way may answer a cancel
and roll back ports. -/
theorem State.scan_frame (e : SlotEvent) :
    (s.scan e).phase = s.phase ∧ (s.scan e).mem = s.mem ∧ (s.scan e).fences = s.fences ∧ (s.scan e).events = s.events ∧
    (s.scan e).pending = s.pending := by
  unfold State.scan
  generalize List.finRange 32 = ks
  induction ks generalizing s with
  | nil => simp
  | cons k ks ih =>
    have h := State.fireEntry_frame (s := s.passPoint) e k
    have ih := ih (s := s.passPoint.fireEntry e k)
    simp_all only [List.foldl_cons, State.passPoint_frame, and_self]

end Sys2Proof.Machine
end

