-- ==== Sys2Proof/Tests/Slice0.lean ====
section
/-! SUPPORT. The model's own tests: the WellFormed smoke, values and sequences the spec works out by hand (each names its chapter), one
step of each command on a small state, and for every statement with hypotheses a state and operands that meet them. -/

namespace Sys2Proof.Tests

set_option Elab.async false

open Sys2Proof Sys2Proof.Machine

/-! ## Small states -/

/-- A running part with every block at its power-reset values. -/
def up : State := { State.reset with phase := .running }

/-- A request with TAG 17h. -/
def req (k : ReqKind) (body : List Byte) : Request := { kind := k, tag := 0x17, body := body, crc := 0x1234 }

/-- The state with one request in the inbox. -/
def ask (s : State) (k : ReqKind) (body : List Byte) : State := { s with link := { s.link with inbox := [req k body] } }

/-- The command goes on and its next state passes a check. -/
def after (c : Instr) (s : State) (p : State → Bool) : Bool :=
  match exec c s with
  | .next t => p t
  | _ => false

/-- The reply frame last queued. -/
def lastReply (s : State) : Option Frame := s.link.replies.getLast?

/-- The reply the request with TAG 17h is answered with. -/
def answered (s : State) (k : ReqKind) (body : List Byte) : Bool :=
  decide (lastReply s = some { kind := k.code + 0x80, tag := 0x17, body := body })

/-- A buffer endpoint stepping by 1. -/
def buf (a : Addr) : Path := { addr := a, step := 1, ring := 0, skip := 0 }

/-- A copy of two-word bursts, run three times, from 1000h to 2000h, with a digest and no next leg. -/
def copyLeg : LegRecord :=
  { src := .buffer (buf 0x1000), dst := .buffer (buf 0x2000), burst := 2, count := 3, mark := 1, next := none
    endReport := true, endHold := false, digest := true, expect := none }

/-- A capture of four-word bursts from port 1 to 0400h. -/
def captureLeg : LegRecord :=
  { src := .port 1, dst := .buffer (buf 0x0400), burst := 4, count := 100, mark := 0, next := none
    endReport := false, endHold := false, digest := true, expect := none }

/-- A playback of four-word bursts from 3000h to port 2. -/
def playLeg : LegRecord :=
  { src := .buffer (buf 0x3000), dst := .port 2, burst := 4, count := 10, mark := 0, next := none
    endReport := false, endHold := false, digest := false, expect := none }

/-- A state whose leg l is loaded with r and pinned as slot i stands in it. -/
def placed (s : State) (i : SlotIx) (l : LegIx) (r : LegRecord) (st : LegState) : State :=
  (s.updLeg l fun e => { record := some r, pins := e.pins + 1 }).updSlot i fun x =>
    { x with standing := .inLeg l st, src := r.srcAddr, dst := r.dstAddr, remaining := r.count, digest := 0xFFFFFFFF }

/-- A snapshot of a burst of copyLeg's start, with a credit used. -/
def snap0 : Snapshot := { src := 0x1000, dst := 0x2000, digest := 0xFFFFFFFF, creditUsed := true, runSet := false }

/-- Slot 3 ACTIVE in leg 5, which is copyLeg, with element 0 in flight. -/
def copying : State := (placed up 3 5 copyLeg .active).setMover (.busy 3 snap0)

/-- The same with element 1, the last of the burst, in flight. -/
def copyingLast : State := copying.updSlot 3 fun x => { x with element := 1 }

/-- The same in the leg's last burst. -/
def copyingEnd : State := copyingLast.updSlot 3 fun x => { x with remaining := 1 }

/-- A request that waits for the element in flight. -/
def waitingFor (s : State) (k : ReqKind) (body : List Byte) (w : Wait) : State :=
  { s with link := { s.link with executing := some { request := req k body, waits := w, reportsAtTake := 0 } } }

/-- The commit of slot 3 has left it in leg 5, a cancel of it waits, and the release stands c and n points ahead of both. -/
def releasing (st : LegState) (c n : Nat) : State :=
  waitingFor ((placed up 3 5 copyLeg st).setMover (.releasing c n)) .slotCancel [3] (.cancel 3)

/-- Entries 0 and 1 start slot 3 at a BURST-END of slot 3, which waits. -/
def entries01 (s : State) : State :=
  let e : Trigger := { enabled := true, oneShot := false, event := .burstEnd, source := 3, target := 3, action := .start }
  { (s.setTrigger 0 e).setTrigger 1 e with events := [{ kind := .burstEnd, slot := 3 }] }

/-- Port 1 inbound and enabled with threshold 4 and n words. -/
def inPort (s : State) (n : Nat) : State :=
  s.updPort 1 fun p => { p with enable := true, threshold := 4, fifo := List.replicate n 0xA5 }

/-- Port 2 outbound and enabled with threshold 4 and n committed words. -/
def outPort (s : State) (n : Nat) : State :=
  s.updPort 2 fun p => { p with direction := .outward, enable := true, threshold := 4, fifo := List.replicate n 0xA5 }

/-! ## WellFormed and the table's words -/

theorem test_wf_lengthError_low : WellFormed (.lengthError 0x01) = true := by decide
theorem test_wf_lengthError_high : WellFormed (.lengthError 0xFB) = true := by decide
theorem test_wf_lengthError_refuses_good_len : WellFormed (.lengthError 0x02) = false := by decide
theorem test_wf_lengthError_refuses_top_len : WellFormed (.lengthError 0xFA) = false := by decide
theorem test_wf_upset_end : WellFormed (.upset ⟨0, 65536⟩) = true := by decide
theorem test_wf_upset_refuses_past_end : WellFormed (.upset ⟨0, 65537⟩) = false := by decide
theorem test_no_word_spells_a_command : decodeTableWord 32 0 = none := by decide

/-! ## Values the spec works out -/

-- R177's check values.
theorem test_crc_ascii : frameCrc [0x31, 0x32, 0x33, 0x34, 0x35, 0x36, 0x37, 0x38, 0x39] = 0x29B1 := by decide +kernel
theorem test_crc_zero : frameCrc [0x00] = 0xE1F0 := by decide +kernel

-- R70's table.
theorem test_digest_ones : digestWord 0xFFFFFFFF 0xFFFFFFFF = 0 := by decide +kernel
theorem test_digest_zero : digestWord 0xFFFFFFFF 0 = 0xDEBB20E3 := by decide +kernel
theorem test_final_digest_zero : finalDigest 0xDEBB20E3 = 0x2144DF1C := by decide

-- Chapter 1, ADDRESS EXAMPLES: ring 4 wraps 123Fh to 1230h; ring 3 with STEP -3 goes 0005h, 0002h, 0007h; de-interleaving.
theorem test_ring4_wraps : ({ addr := 0x1234, step := 1, ring := 4, skip := 0 } : Path).moved 0x123F 1 = 0x1230 := by decide
theorem test_ring3_down :
    ({ addr := 5, step := 0xFD, ring := 3, skip := 0 } : Path).moved 0x0002 (BitVec.toInt (0xFD : BitVec 8)) = 0x0007 := by decide
theorem test_skip_negative :
    ({ addr := 0x2000, step := 64, ring := 0, skip := BitVec.ofInt 16 (-127) } : Path).moved 0x2080
      (BitVec.ofInt 16 (-127)).toInt = 0x2001 := by decide
theorem test_step_wraps_below_zero : (buf 0).moved 0 (-1) = 0xFFFF := by decide

-- Chapter 11, the worked FAULT report: SEQ 0142h, slot 5, PARITY, leg 20, REMAINING 7, element 2, address 1A00h.
theorem test_fault_report_frame :
    (Report.frame { seq := 0x0142, sent := false, body := .fault 5 { cause := .parity 0x1A00, leg := 20, remaining := 7, element := 2 } }).covered
      = [0x0D, 0xF6, 0x42, 0x42, 0x01, 0x05, 0x03, 0x14, 0x00, 0x07, 0x00, 0x02, 0x00, 0x1A] := by decide

-- Chapter 8, A HOLE IN A FENCE.
def holed : Vector Fence 8 :=
  #v[{ enabled := true, base := 0x4100, size := 0x100, mover := .readWrite, host := .readWrite },
     { enabled := true, base := 0x4000, size := 0x1000, mover := .readWrite, host := .read },
     { enabled := false, base := 0, size := 0x8000, mover := .none, host := .read },
     { enabled := true, base := 0x3F00, size := 0x200, mover := .read, host := .readWrite },
     Fence.initial, Fence.initial, Fence.initial, Fence.initial]
theorem test_fence_3F80 :
    moverMayRead holed 0x3F80 = true ∧ moverMayWrite holed 0x3F80 = false ∧ hostMayWrite holed 0x3F80 = true := by decide
theorem test_fence_4080 : moverMayWrite holed 0x4080 = true ∧ hostMayWrite holed 0x4080 = false := by decide
theorem test_fence_4180 : moverMayWrite holed 0x4180 = true ∧ hostMayWrite holed 0x4180 = true := by decide
theorem test_fence_5000 : moverMayRead holed 0x5000 = true ∧ hostMayWrite holed 0x5000 = true := by decide

/-! ## Resets and the line -/

theorem test_powerReset : after .powerReset copying (fun t => decide (t.phase = .resetLow) && decide (t.mem = [])) = true := by
  decide +kernel
theorem test_resetRelease : after (.resetRelease 2) State.reset (fun t => decide (t.phase = .startUp 0) && decide (t.link.rate = 2)) = true := by
  decide +kernel
theorem test_startUpEnd : after .startUpEnd { State.reset with phase := .startUp 0 } (fun t =>
    decide (t.reports.queue = [{ seq := 0, body := .resetDone .power, sent := false }]) && t.reports.attn) = true := by decide +kernel

/-- Start-up has written 8 words. -/
def starting : State := { State.reset with phase := .startUp 8 }

-- R144: of two upsets at word 8 and word 9 when start-up has come to 9 words, the first stays and the second is cleared.
theorem test_upset_in_startUp : after (.upset ⟨8, 9⟩) starting (fun t => after (.upset ⟨9, 9⟩) t (after .startUpEnd · fun u =>
    decide (u.word 8 = .damaged) && decide (u.word 9 = .good 0))) = true := by decide +kernel

/-- The receiver in a state. -/
def recv (r : Receiver) : State := { up with link := { up.link with receiver := r, gapLeft := some 5 } }

theorem test_byteDelivered_sync : after (.byteDelivered 0xA5) up (fun t => decide (t.link.receiver = .length)) = true := by decide +kernel
theorem test_byteDelivered_last_of_body : after (.byteDelivered 0x17) (recv (.body 2 [0x01])) (fun t =>
    decide (t.link.receiver = .check 2 [0x01, 0x17] none) && decide (t.link.gapLeft = some 2000)) = true := by decide +kernel
-- HELLO with TAG 17h and a wrong CRC is dropped and counted (R177).
theorem test_frameReceived_bad_crc : after (.frameReceived 0x00) (recv (.check 2 [0x01, 0x17] (some 0x00))) (fun t =>
    decide (t.link.counters.crcErrors = 1) && decide (t.link.inbox = [])) = true := by decide +kernel
theorem test_frameReceived_joins_inbox :
    after (.frameReceived (BitVec.ofNat 8 ((frameCrc [2, 1, 0x17]).toNat / 256)))
      (recv (.check 2 [0x01, 0x17] (some (BitVec.ofNat 8 (frameCrc [2, 1, 0x17]).toNat)))) (fun t =>
        decide (t.link.inbox = [{ kind := .hello, tag := 0x17, body := [], crc := frameCrc [2, 1, 0x17] }])) = true := by
  decide +kernel
theorem test_lengthError : after (.lengthError 0xFB) (recv .length) (fun t =>
    decide (t.link.receiver = .hunt) && decide (t.link.counters.lengthErrors = 1)) = true := by decide +kernel
theorem test_gapTimeout : after .gapTimeout (recv .length) (fun t =>
    decide (t.link.receiver = .hunt) && decide (t.link.counters.gapTimeouts = 1)) = true := by decide +kernel
theorem test_gapTimeout_in_hunt : after .gapTimeout up (fun t => decide (t.link.counters.gapTimeouts = 0)) = true := by decide +kernel
theorem test_break : after .lineBreak (recv .length) (fun t => t.link.breakHeld && decide (t.link.counters.breaks = 1)) = true := by
  decide +kernel
theorem test_lineHighAfterBreak :
    after .lineHighAfterBreak { up with link := { up.link with breakHeld := true } } (fun t => !t.link.breakHeld) = true := by decide +kernel

/-! ## The link's requests -/

theorem test_hello : after .hello (ask up .hello []) (fun t => answered t .hello
    [0x00, 0x43, 0x16, 0x32, 0x01, 0x10, 0x00, 0x02, 0x08, 0x20, 0x08, 0x00, 0x00, 0x01, 0x00, 0x20, 0x08, 0x00]) = true := by decide +kernel
theorem test_hello_length : after .hello (ask up .hello [0]) (fun t => answered t .hello [0x04]) = true := by decide +kernel
theorem test_linkStatus_clears : after .linkStatus
    (ask { up with link := { up.link with counters := { up.link.counters with breaks := 258 } } } .linkStatus [1]) (fun t =>
      answered t .linkStatus [0, 0, 0, 0, 0, 0, 0, 2, 1, 0, 0, 0, 0, 0, 0, 0, 0] && decide (t.link.counters.breaks = 0)) = true := by
  decide +kernel
theorem test_linkStatus_field : after .linkStatus (ask up .linkStatus [2]) (fun t => answered t .linkStatus [0x05]) = true := by
  decide +kernel
theorem test_engineReset_waits : after .engineReset (ask copying .engineReset []) (fun t => t.resetWaits) = true := by decide +kernel
theorem test_engineReset_at_rest : after .engineReset (ask (placed up 3 5 copyLeg .held) .engineReset []) (fun t =>
    decide ((t.slot 3).standing = .idle) && decide ((t.leg 5) = { record := some copyLeg, pins := 0 })
      && decide (t.reports.queue = [{ seq := 0, body := .resetDone .request, sent := false }])) = true := by decide +kernel

/-! ## The buffer's requests -/

theorem test_bufWrite_asks : after (.bufWrite .together) (ask up .bufWrite [0xFF, 0xFF, 1, 2, 3, 4]) (fun t =>
    decide (t.bufArb.grant = some .link)) = true := by decide +kernel
theorem test_bufWrite_range : after (.bufWrite .together) (ask up .bufWrite [0xFF, 0xFF, 1, 2, 3, 4, 5, 6, 7, 8]) (fun t =>
    answered t .bufWrite [0x06]) = true := by decide +kernel
theorem test_bufRead_field : after (.bufRead .together) (ask up .bufRead [0, 0, 61]) (fun t => answered t .bufRead [0x05]) = true := by
  decide +kernel
-- Chapter 8, A HOST WRITE DURING A COPY: element 0 is granted first and the block waits.
theorem test_bufRead_waits_for_element : after (.bufRead .elementFirst) (ask copying .bufRead [0, 0, 1]) (fun t =>
    decide (t.bufArb.grant = some .mover) && decide (t.bufArb.waiting = some .link)) = true := by decide +kernel

/-- A host block that holds the grant. -/
def blockHeld (s : State) (k : ReqKind) (body : List Byte) : State :=
  { waitingFor s k body .hostBlock with bufArb := { grant := some .link, waiting := none, last := .link, fencesAtGrant := none, fencesReplaced := [] } }

theorem test_hostBlockGrant_writes :
    after .hostBlockGrant (blockHeld up .bufWrite [0xFE, 0xFF, 1, 0, 0, 0, 2, 0, 0, 0]) (fun t =>
      decide (t.word 0xFFFF = .good 2) && answered t .bufWrite [0x00]) = true := by decide +kernel
theorem test_hostBlockGrant_fenced :
    after .hostBlockGrant (blockHeld { up with fences := holed } .bufWrite [0xFF, 0x3F, 1, 0, 0, 0, 2, 0, 0, 0]) (fun t =>
      decide (t.mem = []) && answered t .bufWrite [0x09, 0x00, 0x40]) = true := by decide +kernel
-- R150: the entry is written whole, and an element in flight granted before completes under the old table.
theorem test_fenceSet : after .fenceSet (ask copying .fenceSet [7, 1, 0xFF, 0xFF, 1, 0, 0, 0, 2, 1]) (fun t =>
    decide (t.fence 7 = { enabled := true, base := 0xFFFF, size := 1, mover := .readWrite, host := .read })
      && decide (t.elementFences 0 = t.fences) && decide (t.elementFences 1 = copying.fences)) = true := by decide +kernel
theorem test_fenceSet_past_end : after .fenceSet (ask up .fenceSet [7, 0, 0xFF, 0xFF, 2, 0, 0, 0, 2, 1]) (fun t =>
    answered t .fenceSet [0x05]) = true := by decide +kernel
theorem test_fenceRead : after .fenceRead (ask { up with fences := holed } .fenceRead [3]) (fun t =>
    answered t .fenceRead [0x00, 0x01, 0x00, 0x3F, 0x00, 0x02, 0x00, 0x00, 0x01, 0x00]) = true := by decide +kernel

/-! ## The leg store's requests -/

theorem test_legLoad : after .legLoad (ask up .legLoad ([0xFF, 0x01] ++ captureLeg.bytes)) (fun t =>
    decide ((t.leg 511).record = some captureLeg) && answered t .legLoad [0x00]) = true := by decide +kernel
theorem test_legLoad_in_use : after .legLoad (ask copying .legLoad ([5, 0] ++ captureLeg.bytes)) (fun t =>
    answered t .legLoad [0x08]) = true := by decide +kernel
-- R198's layout, written out by hand: port 1 to 0400h, step +1, BURST 4, COUNT 100, NEXT NONE, DIGEST.
theorem test_legRead : after .legRead (ask (up.updLeg 5 fun _ => { record := some captureLeg, pins := 0 }) .legRead [5, 0]) (fun t =>
    answered t .legRead [0x00, 0x01, 0x00, 1, 1, 0, 0, 0, 0, 0, 0, 0, 0, 0, 0, 0, 0, 0x00, 0x04, 1, 0, 0, 0, 4, 0, 100, 0, 0, 0,
      0xFF, 0xFF, 4]) = true := by decide +kernel
theorem test_legRead_free : after .legRead (ask up .legRead [0xFF, 0x01]) (fun t => answered t .legRead [0x00, 0x00, 0x00]) = true := by
  decide +kernel
theorem test_legLink : after .legLink (ask copying .legLink [5, 0, 0xFF, 0x01]) (fun t =>
    decide ((t.leg 5).record = some { copyLeg with next := some 511 }) && answered t .legLink [0x00, 0x01]) = true := by decide +kernel
theorem test_legLink_free : after .legLink (ask up .legLink [5, 0, 0, 0]) (fun t => answered t .legLink [0x07]) = true := by decide +kernel

/-! ## The slot table's requests -/

theorem test_slotSetup : after .slotSetup (ask up .slotSetup [15, 7, 6, 0xFF, 0x10, 0x27, 5, 0]) (fun t =>
    decide ((t.slot 15).setup =
      { priority := 7, yields := false, preempt := true, port := none, runLeg := true, pace := 10000, firstLeg := some 5 })) = true := by decide +kernel
theorem test_slotSetup_state : after .slotSetup (ask copying .slotSetup [3, 7, 6, 0xFF, 0, 0, 5, 0]) (fun t =>
    answered t .slotSetup [0x07]) = true := by decide +kernel

/-- Slot 3 IDLE with FIRST-LEG 5, which holds r. -/
def ready5 (r : LegRecord) (port : Option PortIx) : State :=
  (up.updLeg 5 fun _ => { record := some r, pins := 0 }).updSlot 3 fun x => { x with setup := { x.setup with firstLeg := some 5, port := port } }

theorem test_slotArm : after .slotArm (ask (ready5 copyLeg none) .slotArm [3]) (fun t =>
    (t.slot 3).isArmed && decide ((t.slot 3).remaining = 3) && decide ((t.leg 5).pins = 1)) = true := by decide +kernel
theorem test_slotArm_grants_bound : after .slotArm (ask (inPort (ready5 captureLeg (some 1)) 6) .slotArm [3]) (fun t =>
    (t.slot 3).isActive && answered t .slotArm [0x00]) = true := by decide +kernel
-- Chapter 11, the worked request: slot 3 ARMED with CREDITS 1 is given 2 and the reply carries 3.
theorem test_slotStart : after .slotStart
    (ask (((placed up 3 5 copyLeg .armed).updSlot 3 fun x => { x with credits := 1 })) .slotStart [3, 2]) (fun t =>
      answered t .slotStart [0x00, 0x03] && (t.slot 3).isActive) = true := by decide +kernel
theorem test_slotStart_limit : after .slotStart (ask (copying.updSlot 3 fun x => { x with credits := 14 }) .slotStart [3, 1]) (fun t =>
    answered t .slotStart [0x06]) = true := by decide +kernel
theorem test_slotHold_ready : after .slotHold (ask (placed up 3 5 copyLeg .ready) .slotHold [3]) (fun t =>
    decide ((t.slot 3).standing = .inLeg 5 .held) && decide (t.reports.queue.map (·.body) = [.held 3 5 3])) = true := by decide +kernel
theorem test_slotHold_active : after .slotHold (ask copying .slotHold [3]) (fun t => (t.slot 3).holdRequested) = true := by decide +kernel
theorem test_slotResume_held : after .slotResume (ask (placed up 3 5 copyLeg .held) .slotResume [3]) (fun t =>
    answered t .slotResume [0x00, 0x01]) = true := by decide +kernel
theorem test_slotResume_leg_end : after .slotResume (ask (placed up 3 5 copyLeg
    (.faulted { cause := .leg, leg := 5, remaining := 0, element := 0 })) .slotResume [3]) (fun t =>
      decide ((t.slot 3).standing = .done) && answered t .slotResume [0x00, 0x07]) = true := by decide +kernel
theorem test_slotCancel_waits : after .slotCancel (ask copying .slotCancel [3]) (fun t =>
    decide (t.link.executing.map (·.waits) = some (.cancel 3))) = true := by
  decide +kernel
theorem test_slotCancel_done : after .slotCancel (ask (up.updSlot 3 fun x => { x with standing := .done }) .slotCancel [3]) (fun t =>
    decide ((t.slot 3).standing = .idle) && decide (t.reports.queue.map (·.body) = [.cancelled 3 none 0 0])) = true := by decide +kernel
theorem test_slotQuery_idle : after .slotQuery (ask up .slotQuery [15]) (fun t => answered t .slotQuery
    [0x00, 0, 1, 0xFF, 0, 0, 0xFF, 0xFF, 0, 0, 0, 0, 0, 0, 0, 0, 0, 0, 0, 0, 0, 0, 0, 0]) = true := by decide +kernel

/-! ## Triggers, ports, reports -/

theorem test_trigSet : after .trigSet (ask up .trigSet [31, 3, 4, 15, 0, 2]) (fun t => decide (t.trigger 31 =
    { enabled := true, oneShot := true, event := .fault, source := 15, target := 0, action := .hold })) = true := by decide +kernel
theorem test_trigRead : after .trigRead (ask up .trigRead [0]) (fun t => answered t .trigRead [0x00, 0, 0, 0, 0, 0]) = true := by
  decide +kernel
theorem test_portSetup : after .portSetup (ask up .portSetup [7, 1, 32, 1]) (fun t =>
    decide ((t.port 7).direction = .outward) && decide ((t.port 7).threshold = 32) && (t.port 7).enable) = true := by decide +kernel
theorem test_portQuery : after .portQuery (ask (inPort up 6) .portQuery [1, 0]) (fun t =>
    answered t .portQuery [0x00, 0, 4, 3, 6, 0, 0, 0, 0, 0, 0, 0]) = true := by decide +kernel

/-- Chapter 9, RECOVERING A REPORT FRAME LOST ON THE LINE: reports 40 to 43, all sent. -/
def sent40 : State :=
  { up with reports :=
    { queue := [40, 41, 42, 43].map fun n => { seq := n, body := .mark 3 5 1, sent := true }
      nextSeq := 44, sendPos := 4, gateOpen := true, lost := 0 } }

theorem test_reportAck : after .reportAck (ask sent40 .reportAck [41, 0]) (fun t =>
    answered t .reportAck [0x00, 0x02] && decide (t.reports.queue.map (·.seq) = [42, 43]) && decide (t.reports.sendPos = 2)) = true := by
  decide +kernel
theorem test_reportAck_seq : after .reportAck (ask sent40 .reportAck [44, 0]) (fun t => answered t .reportAck [0x0C]) = true := by
  decide +kernel
theorem test_reportReplay : after .reportReplay (ask sent40 .reportReplay [42, 0]) (fun t => decide (t.reports.sendPos = 2)) = true := by
  decide +kernel
theorem test_reportGate : after .reportGate (ask up .reportGate [0]) (fun t => !t.reports.gateOpen) = true := by decide +kernel
theorem test_transmitReply : after .transmitReply { up with link := { up.link with replies := [{ kind := 0xB2, tag := 0x17, body := [0, 3] }] } }
    (fun t => match t.link.transmitter with
      | .sending line => decide (line.take 6 = [0xA5, 0x04, 0xB2, 0x17, 0x00, 0x03])
      | .free => false) = true := by decide +kernel
theorem test_transmitReport : after .transmitReport { sent40 with reports := { sent40.reports with sendPos := 3 } } (fun t =>
    decide (t.reports.sendPos = 4) && decide (t.link.transmitter ≠ .free)) = true := by decide +kernel
theorem test_frameSent : after .frameSent { up with link := { up.link with transmitter := .sending [0xA5] } } (fun t =>
    decide (t.link.transmitter = .free)) = true := by decide +kernel
theorem test_wordArrival_overrun : after (.wordArrival 1 7) (inPort up 32) (fun t =>
    (t.port 1).overrun && decide ((t.port 1).overrunCount = 1) && decide (t.reports.queue.map (·.body) = [.portAlarm 1 .overrun])) = true := by
  decide +kernel
theorem test_wordTake_underrun : after (.wordTake 2) ((outPort up 1).updPort 2 fun p => { p with staged := 1 }) (fun t =>
    (t.port 2).underrun && decide ((t.port 2).driven = some 0) && decide ((t.port 2).fifo.length = 1)) = true := by decide +kernel
theorem test_paceExpiry : after (.paceExpiry 3) (placed up 3 5 copyLeg (.paced 1)) (fun t => (t.slot 3).isArmed) = true := by decide +kernel
theorem test_upset : after (.upset ⟨0xFFFF, 0⟩) up (fun t => decide (t.word 0xFFFF = .damaged) && decide (t.word 0xFFFE = .good 0)) = true := by
  decide +kernel
theorem test_triggerEvent : after .triggerEvent
    { (placed up 3 5 copyLeg .armed).setTrigger 0
        { enabled := true, oneShot := true, event := .mark, source := 1, target := 3, action := .start } with
      events := [{ kind := .mark, slot := 1 }] } (fun t =>
      (t.slot 3).isActive && !(t.trigger 0).enabled && decide (t.events = [])) = true := by decide +kernel
-- R45: entry 0 reaches the slot of its last commit before the cancel, and entry 1 reaches it after, IDLE (R113's STATE).
theorem test_triggerEvent_cancel_between_actions : after .triggerEvent (entries01 (releasing .armed 2 2)) (fun t =>
    decide (t.reports.queue.map (·.body) = [.cancelled 3 (some 5) 3 0, .triggerDrop 1 3 .state]) && decide (t.arb.mover = .idle)
      && decide ((t.slot 3).credits = 0)) = true := by decide +kernel

/-! ## Elements -/

-- Chapter 3: the first element of a copy moves the word and steps both addresses; a FENCE-SET after its grant does not reach it (R150).
theorem test_element_moves : after (.element ⟨0, 0, 1⟩) ((copying.writeWord 0x1000 0xCAFE).takeFence 0
      { enabled := true, base := 0, size := 65536, mover := .none, host := .read }) (fun t =>
    decide (t.word 0x2000 = .good 0xCAFE) && decide ((t.slot 3).element = 1) && decide ((t.slot 3).src = 0x1001)) = true := by decide +kernel
theorem test_element_commits : after (.element ⟨0, 0, 0⟩) copyingLast (fun t =>
    (t.slot 3).isArmed && decide ((t.slot 3).remaining = 2) && decide (t.arb.mover = .idle)
      && decide (t.events = [{ kind := .burstEnd, slot := 3 }])) = true := by decide +kernel

/-! ## States that meet the statements' hypotheses

Each theorem names the statement whose hypotheses it meets, clause by clause, at a boundary of a range where there is one. -/

/-- The engine may take a request put by `ask` into the inbox of a part that runs, executes nothing and queues no reply. -/
theorem takes_ask (s : State) (k : ReqKind) (body : List Byte)
    (h1 : s.phase = .running) (h2 : s.link.executing = none) (h3 : s.link.replies.length < 12) :
    Takes (ask s k body) (req k body) [] := ⟨h1, h2, h3, rfl⟩

theorem takes_up (k : ReqKind) (body : List Byte) : Takes (ask up k body) (req k body) [] :=
  takes_ask up k body rfl rfl (by decide)

theorem takes_copying (k : ReqKind) (body : List Byte) : Takes (ask copying k body) (req k body) [] :=
  takes_ask copying k body rfl rfl (by decide)

theorem test_met_StepRunsFrontCommandOrTicks :
    ({ up with pending := [.hello, .fenceSet] } : State).pending = .hello :: [.fenceSet] ∧ up.pending = [] := ⟨rfl, rfl⟩
theorem test_met_CommandsKeepTheQueue : exec (.upset ⟨3, 0⟩) up = .next (up.setWord 3 .damaged) := rfl
theorem test_met_OnlyTheseCommandsWriteTheStores : exec (.paceExpiry 3) up = .next up := rfl
theorem test_met_StartUpZeroesTheBufferAndReports :
    State.reset.phase = .resetLow ∧ ({ State.reset with phase := .startUp 0 } : State).phase = .startUp 0 ∧ up.phase ≠ .resetLow ∧
      (∀ n, up.phase ≠ .startUp n) := ⟨rfl, rfl, by decide, fun _ h => Phase.noConfusion h⟩

theorem test_met_ReceiverFollowsItsTable :
    (up.phase = .running ∧ up.link.breakHeld = false ∧ up.link.receiver = .hunt) ∧
    ((recv .length).link.receiver = .length ∧ 2 ≤ (0x02 : Byte).toNat ∧ (0xFA : Byte).toNat ≤ 250) ∧
    ((recv (.body 2 [])).link.receiver = .body 2 [] ∧ ([] : List Byte).length + 1 < (2 : Byte).toNat) ∧
    ((recv (.body 2 [1])).link.receiver = .body 2 [1] ∧ ([1] : List Byte).length + 1 = (2 : Byte).toNat) ∧
    (recv (.check 2 [1, 2] none)).link.receiver = .check 2 [1, 2] none ∧
    ((0x01 : Byte).toNat < 2 ∧ 250 < (0xFB : Byte).toNat ∧ (recv .length).link.receiver ≠ .hunt) ∧
    ({ up with link := { up.link with breakHeld := true } } : State).link.breakHeld = true ∧
    (State.reset.phase ≠ .running ∧ ({ State.reset with phase := .startUp 0 } : State).phase ≠ .running) := by decide

/-- The cache holds an executed request with TAG 17h. -/
def cached : State :=
  { recv (.check 3 [0x30, 0x17, 0x05] (some 0x34)) with link :=
    { (recv (.check 3 [0x30, 0x17, 0x05] (some 0x34))).link with
      cache := [{ tag := 0x17, crc := 0x1234, reply := { kind := 0xB0, tag := 0x17, body := [0] } }] } }

theorem test_met_FrameReceivedSortsTheFrame :
    (up.phase = .running ∧ cached.phase = .running) ∧
    (cached.link.breakHeld = false ∧ cached.link.receiver = .check 3 (0x30 :: 0x17 :: [0x05]) (some 0x34) ∧ LinkLaw cached.link) ∧
    ((recv (.check 2 [0x01, 0x17] (some 0))).link.receiver = .check 2 (0x01 :: 0x17 :: []) (some 0) ∧
      LinkLaw (recv (.check 2 [0x01, 0x17] (some 0))).link) := by decide

theorem test_met_FrameOnTheLineIsReceived :
    (List.replicate 248 (0xA5 : Byte)).length ≤ 248 ∧ up.phase = .running ∧ up.link.receiver = .hunt ∧ up.link.breakHeld = false ∧
      up.link.gapLeft = none := by decide +kernel

theorem test_met_RequestBodiesAreChecked :
    (commandKind (.bufWrite .together) = some .bufWrite ∧ Takes (ask up .bufWrite [0, 0, 1, 2, 3]) (req .bufWrite [0, 0, 1, 2, 3]) [] ∧
      ReqKind.lengthOk .bufWrite 5 = false) ∧
    (Takes (ask up .reportGate [2]) (req .reportGate [2]) [] ∧ ReqKind.lengthOk .reportGate 1 = true ∧
      ReqKind.unusedClear .reportGate [2] = false) ∧
    (∀ r rest, Takes up r rest → r.kind ≠ .hello) :=
  ⟨⟨rfl, takes_up _ _, by decide⟩, ⟨takes_up _ _, by decide, by decide⟩,
    fun _ _ h => nomatch (h.2.2.2 : ([] : List Request) = _)⟩

theorem test_met_HelloAnswersTheIdentification :
    (Takes (ask up .hello []) (req .hello []) [] ∧ (req .hello []).kind = .hello ∧ (req .hello []).body = []) ∧
    (Takes (ask up .hello [0]) (req .hello [0]) [] ∧ (req .hello [0]).body ≠ []) ∧
    (Takes (ask up .fenceRead [0]) (req .fenceRead [0]) [] ∧ (req .fenceRead [0]).kind ≠ .hello) :=
  ⟨⟨takes_up _ _, rfl, rfl⟩, ⟨takes_up _ _, by decide⟩, takes_up _ _, by decide⟩

/-- Slot 3 bound to port 1, and slot 4 bound to none. -/
def bound1 : State := (up.updSlot 3 fun x => { x with standing := .done, setup := { x.setup with port := some 1 } })

theorem test_met_QueriesReadThenClear :
    (Takes (ask up .linkStatus [1]) (req .linkStatus [1]) [] ∧ (req .linkStatus [1]).body = [if true then 0x01 else 0x00]) ∧
    (Takes (ask up .portQuery [8, 0]) (req .portQuery [8, 0]) [] ∧
      (req .portQuery [8, 0]).body = leBytes 1 8 ++ [if false then 0x01 else 0x00]) ∧
    ((∀ i ∈ some (3 : SlotIx), (bound1.slot i).boundTo 1 = true ∧ ∀ j, j < i → (bound1.slot j).boundTo 1 = false) ∧
      ∀ i, (up.slot i).boundTo 7 = false) :=
  ⟨⟨takes_up _ _, by decide⟩, ⟨takes_up _ _, by decide⟩, by decide +kernel⟩

theorem test_met_EngineResetAtRest :
    Takes (ask up .engineReset []) (req .engineReset []) [] ∧ (req .engineReset []).body = [] ∧
      ∀ i snap, (ask up .engineReset []).arb.mover ≠ .busy i snap :=
  ⟨takes_up _ _, rfl, fun _ _ h => Mover.noConfusion h⟩

theorem test_met_EngineResetWaitsForTheElement :
    (Takes (ask copying .engineReset []) (req .engineReset []) [] ∧ (ask copying .engineReset []).arb.mover = .busy 3 snap0) ∧
    (InFlight (waitingFor copying .engineReset [] .engineReset) 3 5 copyLeg snap0 ∧
      InFlight (waitingFor copyingLast .engineReset [] .engineReset) 3 5 copyLeg snap0 ∧
      after (.element ⟨0, 0, 0⟩) (waitingFor copying .engineReset [] .engineReset) (fun _ => true) = true) :=
  ⟨⟨takes_copying _ _, rfl⟩, by decide +kernel⟩

theorem test_met_HostBlocksAskForTheirGrant :
    (Takes (ask up .bufWrite [0xFF, 0xFF, 1, 2, 3, 4]) (req .bufWrite [0xFF, 0xFF, 1, 2, 3, 4]) [] ∧
      [0xFF, 0xFF, 1, 2, 3, 4] = leBytes 2 65535 ++ [(0x04030201 : Word)].flatMap wordBytes) ∧
    (Takes (ask up .bufRead [0xC4, 0xFF, 60]) (req .bufRead [0xC4, 0xFF, 60]) [] ∧ [0xC4, 0xFF, 60] = leBytes 2 65476 ++ leBytes 1 60) ∧
    (up.bufArb.grant = none ∧ up.bufferInFlight = false ∧ copying.bufArb.grant = none ∧ copying.bufferInFlight = true ∧
      copying.bufArb.last = .link) ∧
    ({ copying with bufArb := { copying.bufArb with last := .mover } } : State).bufArb.last = .mover ∧
    ({ copying with bufArb := { copying.bufArb with grant := some .mover } } : State).bufArb.grant = some .mover :=
  ⟨⟨takes_up _ _, by decide +kernel⟩, ⟨takes_up _ _, by decide⟩, by decide +kernel, rfl, rfl⟩

/-- A one-word write of the last buffer word, under its grant. -/
def lastWrite (s : State) : State := blockHeld s .bufWrite [0xFF, 0xFF, 1, 0, 0, 0]

theorem test_met_HostWriteBlockIsAllOrNothing :
    ((lastWrite up).phase = .running ∧ (lastWrite up).bufArb.grant = some .link ∧ memWf (lastWrite up).mem = true ∧
      (req .bufWrite [0xFF, 0xFF, 1, 0, 0, 0]).body = leBytes 2 (0xFFFF : Addr).toNat ++ [(1 : Word)].flatMap wordBytes ∧
      (0xFFFF : Addr).toNat + 1 ≤ 65536 ∧ hostMayWrite (lastWrite up).fences (0xFFFF + BitVec.ofNat 16 0) = true) ∧
    (hostMayWrite holed 0x3FFF = true ∧ hostMayWrite holed (0x3FFF + BitVec.ofNat 16 1) = false) := by decide +kernel

theorem test_met_HostReadBlockReturnsGoodWords :
    ((blockHeld up .bufRead [0xC4, 0xFF, 60]).bufArb.grant = some .link ∧
      [0xC4, 0xFF, 60] = leBytes 2 (0xFFC4 : Addr).toNat ++ leBytes 1 60 ∧ (0xFFC4 : Addr).toNat + 60 ≤ 65536) ∧
    ((up.setWord 0x11 .damaged).word (0x10 + BitVec.ofNat 16 1) = .damaged ∧
      (up.setWord 0x11 .damaged).word (0x10 + BitVec.ofNat 16 0) ≠ .damaged) := by decide +kernel

theorem test_met_FenceSetAndTrigSetReplaceTheEntry :
    (Takes (ask up .fenceSet [8, 1, 0, 0, 0, 0, 1, 0, 2, 1]) (req .fenceSet [8, 1, 0, 0, 0, 0, 1, 0, 2, 1]) [] ∧
      [8, 1, 0, 0, 0, 0, 1, 0, 2, 1] =
        leBytes 1 8 ++ [if true then 0x01 else 0x00] ++ leBytes 2 0 ++ leBytes 4 65536 ++ leBytes 1 2 ++ leBytes 1 1) ∧
    (Takes (ask up .trigSet [31, 3, 4, 15, 15, 2]) (req .trigSet [31, 3, 4, 15, 15, 2]) [] ∧
      [31, 3, 4, 15, 15, 2] = leBytes 1 31 ++ [BitVec.ofNat 8 ((if true then 1 else 0) + (if true then 2 else 0))] ++ leBytes 1 4
        ++ leBytes 1 15 ++ leBytes 1 15 ++ leBytes 1 2) ∧
    (Takes (ask copying .fenceSet [7, 1, 0, 0, 0, 0, 1, 0, 2, 1]) (req .fenceSet [7, 1, 0, 0, 0, 0, 1, 0, 2, 1]) [] ∧
      copying.bufferInFlight = true ∧ copying.bufArb.fencesAtGrant = none ∧ copying.bufArb.grant = none ∧
      (BufArbiter.elementHolds up.fences).fencesAtGrant.isSome = true) :=
  ⟨⟨takes_up _ _, by decide⟩, ⟨takes_up _ _, by decide⟩, takes_copying _ _, by decide +kernel⟩

/-- A request of one index byte is met at the last good index and the first bad one. -/
theorem test_met_indexRequests (k : ReqKind) :
    (∀ n ∈ [7, 8, 15, 16, 31, 32], n < 256 ∧ (req k (leBytes 1 n)).body = leBytes 1 n) ∧
      (∀ n, Takes (ask up k (leBytes 1 n)) (req k (leBytes 1 n)) []) :=
  ⟨fun n hn => ⟨(by decide : ∀ m ∈ [7, 8, 15, 16, 31, 32], m < 256) n hn, rfl⟩, fun n => takes_up k (leBytes 1 n)⟩
theorem test_met_FenceReadReturnsTheEntry : Takes (ask up .fenceRead [7]) (req .fenceRead [7]) [] ∧ [7] = leBytes 1 7 :=
  ⟨takes_up _ _, by decide⟩
theorem test_met_SlotStartAddsCreditsWithinTheLimit :
    Takes (ask copying .slotStart [3, 15]) (req .slotStart [3, 15]) [] ∧ [3, 15] = leBytes 1 3 ++ leBytes 1 15 :=
  ⟨takes_copying _ _, by decide⟩
theorem test_met_SlotHoldActsByTheState : Takes (ask copying .slotHold [15]) (req .slotHold [15]) [] ∧ [15] = leBytes 1 15 :=
  ⟨takes_copying _ _, by decide⟩
theorem test_met_SlotQueryReturnsTheRecord : Takes (ask copying .slotQuery [16]) (req .slotQuery [16]) [] ∧ [16] = leBytes 1 16 :=
  ⟨takes_copying _ _, by decide⟩
theorem test_met_TrigReadReturnsTheEntry : Takes (ask up .trigRead [32]) (req .trigRead [32]) [] ∧ [32] = leBytes 1 32 :=
  ⟨takes_up _ _, by decide⟩

theorem test_met_LowestEnabledFenceGoverns :
    ((holed.get 1).enabled = true ∧ (holed.get 1).base.toNat ≤ (0x4080 : Addr).toNat ∧
      (0x4080 : Addr).toNat < (holed.get 1).base.toNat + (holed.get 1).size ∧ ¬ (holed.get 0).base.toNat ≤ (0x4080 : Addr).toNat) ∧
    (∀ k : FenceIx, ¬ ((holed.get k).enabled = true ∧ (holed.get k).base.toNat ≤ (0x5000 : Addr).toNat ∧
      (0x5000 : Addr).toNat < (holed.get k).base.toNat + (holed.get k).size)) := by decide

theorem test_met_LegLoadStoresALegalRecord :
    (Takes (ask up .legLoad (leBytes 2 511 ++ captureLeg.bytes)) (req .legLoad (leBytes 2 511 ++ captureLeg.bytes)) [] ∧
      captureLeg.burst ≤ 256 ∧ captureLeg.mark < captureLeg.count ∧ portToPort captureLeg.src captureLeg.dst = false ∧
      (captureLeg.expect.isSome = true → captureLeg.digest = true)) ∧
    (Takes (ask up .legLoad (leBytes 2 512 ++ captureLeg.bytes)) (req .legLoad (leBytes 2 512 ++ captureLeg.bytes)) [] ∧
      captureLeg.bytes.length = 29 ∧ (byteAt captureLeg.bytes 28).toNat < 8) ∧
    (let bytes := { captureLeg with count := 0 }.bytes
     bytes.length = 29 ∧ (byteAt bytes 28).toNat < 8 ∧ fieldAt bytes 22 2 = 0) :=
  ⟨⟨takes_up _ _, by decide⟩, ⟨takes_up _ _, by decide +kernel⟩, by decide +kernel⟩

theorem test_met_LegReadReturnsTheEntry : Takes (ask up .legRead [0, 2]) (req .legRead [0, 2]) [] ∧ [0, 2] = leBytes 2 512 :=
  ⟨takes_up _ _, by decide⟩
theorem test_met_LegLinkReplacesNextAlone :
    Takes (ask copying .legLink [0xFF, 1, 0xFF, 0xFF]) (req .legLink [0xFF, 1, 0xFF, 0xFF]) [] ∧
      [0xFF, 1, 0xFF, 0xFF] = leBytes 2 511 ++ leBytes 2 65535 := ⟨takes_copying _ _, by decide⟩
theorem test_met_SlotSetupWritesTheSevenFields :
    Takes (ask up .slotSetup [15, 7, 5, 0xFF, 0, 0, 0xFF, 0xFF]) (req .slotSetup [15, 7, 5, 0xFF, 0, 0, 0xFF, 0xFF]) [] ∧
      [15, 7, 5, 0xFF, 0, 0, 0xFF, 0xFF] =
        leBytes 1 15 ++ leBytes 1 7
          ++ [BitVec.ofNat 8 ((if true then 1 else 0) + (if false then 2 else 0) + (if true then 4 else 0))] ++ leBytes 1 255
          ++ leBytes 2 0 ++ leBytes 2 65535 := ⟨takes_up _ _, by decide⟩

/-- Slot 3 with FIRST-LEG 5 and PORT 1, which slot 4 holds. -/
def held1 : State :=
  (ready5 captureLeg (some 1)).updSlot 4 fun x => { x with standing := .done, setup := { x.setup with port := some 1 } }

theorem test_met_SlotArmEntersTheFirstLeg :
    (Takes (ask up .slotArm [3]) (req .slotArm [3]) [] ∧ [3] = leBytes 1 3) ∧
    ((copying.slot 3).standing ≠ .idle ∧ (copying.slot 3).standing ≠ .done) ∧
    ((up.slot 3).standing = .idle ∧ (up.slot 3).setup.firstLeg = none) ∧
    ((held1.slot 3).setup.firstLeg = some 5 ∧ (held1.slot 3).setup.port = some 1 ∧ (held1.slot 4).boundTo 1 = true) ∧
    ((ready5 captureLeg none).legCheck none 5 = false ∧ (ready5 copyLeg none).legCheck none 5 = true ∧
      ((ready5 copyLeg none).leg 5).record = some copyLeg) :=
  ⟨⟨takes_up _ _, by decide⟩, by decide +kernel⟩

theorem test_met_LegCheckAndRequestCondition :
    (up.leg 511).record = none ∧ ((ready5 captureLeg none).leg 5).record = some captureLeg ∧
      portToPort captureLeg.src captureLeg.dst = false ∧ ((inPort up 4).port 1).direction = .inward ∧
      ((outPort up 28).port 2).direction = .outward := by decide +kernel

/-- Slot 3 ARMED in the capture leg and bound to port 1, which holds n words. -/
def capturing (n : Nat) : State :=
  (placed (inPort up n) 3 5 captureLeg .armed).updSlot 3 fun x => { x with setup := { x.setup with port := some 1 } }

theorem test_met_EligibilityMakesReadyAndGrantsTheIdleMover :
    ((up.slot 3).standing = .idle ∧ ((placed up 3 5 copyLeg .armed).slot 3).standing = .inLeg 5 .armed) ∧
    (¬ 0 < ((placed up 3 5 copyLeg .armed).slot 3).credits ∧
      0 < (((placed up 3 5 copyLeg .armed).updSlot 3 fun x => { x with credits := 1 }).slot 3).credits ∧
      up.arb.mover = .idle ∧ copying.arb.mover ≠ .idle) ∧
    (((placed up 3 5 copyLeg .armed).leg 5).record = some copyLeg ∧ copyLeg.usesBuffer = true ∧
      (blockHeld up .bufRead [0, 0, 1]).bufArb.grant = some .link ∧ up.bufArb.grant = none ∧ (up.leg 5).record = none) ∧
    (((capturing 4).slot 3).standing = .inLeg 5 .armed ∧ ((capturing 4).slot 3).setup.port = some 1 ∧
      ((capturing 4).port 1).condition = true ∧ ((capturing 3).port 1).condition = false ∧ (capturing 4).arb.mover = .idle) := by
  decide +kernel

/-- Slot 3 FAULTED in leg 5 with a cause. -/
def faulted (c : FaultCause) : State := placed up 3 5 copyLeg (.faulted { cause := c, leg := 5, remaining := 3, element := 0 })

theorem test_met_SlotResumeActsByTheState :
    (Takes (ask up .slotResume [16]) (req .slotResume [16]) [] ∧ [16] = leBytes 1 16) ∧
    (((placed up 3 5 copyLeg .held).slot 3).standing = .inLeg 5 .held ∧ (copying.slot 3).isActive = true) ∧
    (((faulted (.parity 0)).slot 3).standing = .inLeg 5 (.faulted { cause := .parity 0, leg := 5, remaining := 3, element := 0 }) ∧
      (FaultCause.parity 0).resumePoint = .burst ∧ (up.slot 3).standing = .idle) ∧
    (((faulted (.digest 1 2)).leg 5).record = some copyLeg ∧ (FaultCause.digest 1 2).resumePoint = .legEnd ∧
      FaultCause.leg.resumePoint = .legEnd) :=
  ⟨⟨takes_up _ _, by decide⟩, by decide +kernel⟩

theorem test_met_LegEndReadsNext :
    (waitingFor copying .slotCancel [3] (.cancel 3)).resetWaits = false ∧ copyLeg.next = none ∧ ({ copyLeg with next := some 511 } : LegRecord).next = some 511 ∧
      copying.legCheck (copying.slot 3).setup.port 511 = false ∧ (copying.leg 5).record = some copyLeg ∧
      copying.legCheck (copying.slot 3).setup.port 5 = true := by decide +kernel

/-- Slot 3 SUSPENDED between two others on the stack. -/
def stacked : State :=
  (placed up 3 5 copyLeg .suspended).setStack
    [{ slot := 1, snapshot := snap0 }, { slot := 3, snapshot := snap0 }, { slot := 2, snapshot := snap0 }]

theorem test_met_SlotCancelMakesTheSlotIdle :
    (Takes (ask up .slotCancel [16]) (req .slotCancel [16]) [] ∧ Takes (ask stacked .slotCancel [3]) (req .slotCancel [3]) []) ∧
    ((up.slot 15).standing = .idle ∧ (copying.slot 3).isActive = true ∧ (bound1.slot 3).standing = .done) ∧
    (((faulted .leg).slot 3).isActive = false ∧ ((faulted .leg).slot 3).isSuspended = false) ∧
    ((stacked.slot 3).standing = .inLeg 5 .suspended ∧
      stacked.arb.stack = [{ slot := 1, snapshot := snap0 }] ++ { slot := 3, snapshot := snap0 } :: [{ slot := 2, snapshot := snap0 }] ∧
      (stacked.leg 5).record = some copyLeg) :=
  ⟨⟨takes_up _ _, takes_ask _ _ _ rfl rfl (by decide)⟩, by decide +kernel⟩

theorem test_met_PortSetupWritesTheSetup :
    Takes (ask up .portSetup [7, 1, 32, 1]) (req .portSetup [7, 1, 32, 1]) [] ∧
      [7, 1, 32, 1] = leBytes 1 7 ++ leBytes 1 1 ++ leBytes 1 32 ++ [if true then 0x01 else 0x00] := ⟨takes_up _ _, by decide⟩

theorem test_met_WordArrivalJoinsOrIsLost :
    ((up.port 1).enable = false ∧ ((outPort up 0).port 2).direction = .outward) ∧
    (((capturing 3).port 1).direction = .inward ∧ ((capturing 3).port 1).enable = true ∧ ((capturing 3).port 1).fifo.length < 32 ∧
      ((capturing 3).port 1).fifo.length + 1 = ((capturing 3).port 1).threshold ∧ ((capturing 3).slot 3).boundTo 1 = true ∧
      (∀ j, j ≠ (3 : SlotIx) → ((capturing 3).slot j).boundTo 1 = false) ∧ ∀ i, ((inPort up 3).slot i).boundTo 1 = false) ∧
    (((inPort up 31).port 1).fifo.length + 1 ≠ ((inPort up 31).port 1).threshold ∧ 32 ≤ ((inPort up 32).port 1).fifo.length) ∧
    (up.phase = .running ∧ State.reset.phase ≠ .running) := by
  decide +kernel

theorem test_met_WordTakeDrivesACommittedWord :
    ((up.port 1).direction = .inward ∧ ((outPort up 29).port 2).direction = .outward ∧ ((outPort up 29).port 2).enable = true) ∧
    (((outPort up 29).port 2).fifo = 0xA5 :: List.replicate 28 0xA5 ∧ ((outPort up 29).port 2).staged ≤ (List.replicate 28 0xA5).length ∧
      32 - (List.replicate 28 0xA5).length = ((outPort up 29).port 2).threshold ∧ ∀ i, ((outPort up 29).slot i).boundTo 2 = false) ∧
    (32 - (List.replicate 27 0xA5).length ≠ ((outPort up 28).port 2).threshold ∧ ((outPort up 0).port 2).fifo.length ≤ 0) ∧
    ((up.updPort 2 fun p => { p with direction := .outward }).port 2).enable = false ∧
    (up.phase = .running ∧ State.reset.phase ≠ .running) := by decide +kernel

theorem test_met_UpsetDamagesOneWord :
    (memWf (copying.setWord 0x1000 .damaged).mem = true ∧ ∀ n, (copying.setWord 0x1000 .damaged).phase ≠ .startUp n) ∧
    (memWf (starting.setWord 8 .damaged).mem = true ∧ (starting.setWord 8 .damaged).phase = .startUp 8) :=
  ⟨⟨by decide +kernel, fun _ h => Phase.noConfusion h⟩, by decide +kernel⟩

theorem test_met_ReplayAndGate :
    (Takes (ask sent40 .reportReplay [43, 0]) (req .reportReplay [43, 0]) [] ∧ [43, 0] = leBytes 2 (43 : Seq).toNat) ∧
    (sent40.reports.queue = sent40.reports.queue.take 3 ++ { seq := 43, body := .mark 3 5 1, sent := true } :: [] ∧
      (∀ y ∈ sent40.reports.queue.take 3, y.seq ≠ 43) ∧ ∀ x ∈ sent40.reports.queue, x.seq ≠ 44) ∧
    (Takes (ask up .reportGate [1]) (req .reportGate [1]) [] ∧ (req .reportGate [1]).body = [if true then 0x01 else 0x00]) :=
  ⟨⟨takes_ask _ _ _ rfl rfl (by decide), by decide⟩, by decide, takes_up _ _, by decide⟩

/-- The first report unsent, and the queue full with reports lost. -/
def full : ReportQueue :=
  { queue := (List.range 32).map fun n => { seq := BitVec.ofNat 16 n, body := .mark 3 5 1, sent := decide (n < 31) }
    nextSeq := 32, sendPos := 31, gateOpen := true, lost := 65535 }

theorem test_met_ReportsAreAppendedAndAcknowledged :
    (sent40.reports.queue.length < 32 ∧ 32 ≤ full.queue.length ∧ full.lost = 65535 ∧ { full with lost := 7 }.lost < 65535) ∧
    (full.queue = full.queue.take 31 ++ { seq := 31, body := .mark 3 5 1, sent := false } :: [] ∧
      full.queue = [] ++ { seq := 0, body := .mark 3 5 1, sent := true } :: full.queue.drop 1 ∧ full.queue.length ≤ 32 ∧
      (∀ y ∈ full.queue.take 31, y.seq ≠ 31) ∧ ∀ x ∈ full.queue, x.seq ≠ 32) ∧
    Takes (ask { up with reports := full } .reportAck [31, 0]) (req .reportAck [31, 0]) [] :=
  ⟨by decide, by decide +kernel, takes_ask _ _ _ rfl rfl (by decide)⟩

theorem test_met_TransmitterTakesRepliesBeforeReports :
    (up.phase = .running ∧ up.link.transmitter = .free ∧
      ({ up with link := { up.link with replies := [kindFrame 1] } } : State).link.replies = [kindFrame 1]) ∧
    ({ up with reports := full } : State).reports.queue[31]? = some { seq := 31, body := .mark 3 5 1, sent := false } ∧
    ({ up with link := { up.link with transmitter := .sending [0xA5] } } : State).link.transmitter = .sending [0xA5] := by
  decide +kernel

theorem test_met_PaceExpiryArmsThePacedSlot :
    ((placed up 15 5 copyLeg (.paced 1)).slot 15).standing = .inLeg 5 (.paced 1) ∧ (copying.slot 3).timer = none := by decide +kernel

/-- A release 33 or 34 points ahead, with no cancel waiting and an event that no entry answers. -/
def outstanding (n : Nat) : State := { up.setMover (.releasing n n) with events := [{ kind := .mark, slot := 1 }] }

theorem test_met_TriggerEventFiresInAscendingOrder :
    (up.phase = .running ∧ up.events = [] ∧ (outstanding 33).events = { kind := .mark, slot := 1 } :: []) ∧
    ((outstanding 33).arb.mover = .releasing 33 33 ∧ (outstanding 34).arb.mover = .releasing 34 34 ∧
      (outstanding 33).link.executing = none ∧ ∀ k, ((outstanding 33).trigger k).enabled = false) ∧
    (((entries01 (releasing .armed 2 2)).trigger 0).enabled = true ∧
      ((entries01 (releasing .armed 2 2)).trigger 0).event = .burstEnd ∧ ((entries01 (releasing .armed 2 2)).trigger 0).source = 3) ∧
    ((releasing .armed 0 1).arb.mover = .releasing 0 1 ∧ (releasing .armed 1 2).arb.mover = .releasing 1 2 ∧
      (releasing .armed 2 2).arb.mover = .releasing 2 2) ∧
    (∀ c n, up.arb.mover ≠ .releasing c n) :=
  ⟨by decide, by decide +kernel, by decide +kernel, by decide, fun _ _ h => Mover.noConfusion h⟩

theorem test_met_TriggerActionsAtTheTarget :
    ((bound1.slot 3).isBound = true ∧ (up.slot 3).isBound = false ∧ (copying.slot 3).isBound = false ∧
      (held1.slot 3).setup.firstLeg = some 5 ∧ (held1.slot 4).boundTo 1 = true) ∧
    ((ready5 captureLeg none).legCheck none 5 = false ∧ (ready5 copyLeg none).legCheck none 5 = true) := by decide +kernel

/-- Slot 9 READY with a higher PRIORITY and PREEMPT, beside the copy of slot 3. -/
def challenged : State := (placed copying 9 6 copyLeg .ready).updSlot 9 fun x => { x with setup := { x.setup with priority := 3, preempt := true } }

theorem test_met_ElementMovesAWordAndMayBePreempted :
    (ElementMoves copying 0 3 5 copyLeg snap0 0 ∧ (copying.slot 3).element + 1 < copyLeg.burst ∧ copying.bestReady = none ∧
      memWf copying.mem = true) ∧
    (ElementMoves challenged 0 3 5 copyLeg snap0 0 ∧ challenged.bestReady = some 9 ∧
      (challenged.slot 3).setup.priority < (challenged.slot 9).setup.priority ∧ (challenged.slot 9).setup.preempt = true ∧
      (challenged.slot 3).setup.yields = true ∧ challenged.arb.stack.length < 3) :=
  ⟨⟨⟨by decide +kernel, ⟨fun _ _ => by decide +kernel, fun _ _ => by decide +kernel⟩,
      (by decide +kernel : copying.word (copying.slot 3).src = .good 0), fun _ h => Dest.noConfusion h⟩,
      by decide +kernel⟩,
    ⟨by decide +kernel, ⟨fun _ _ => by decide +kernel, fun _ _ => by decide +kernel⟩,
      (by decide +kernel : challenged.word (challenged.slot 3).src = .good 0), fun _ h => Dest.noConfusion h⟩,
    by decide +kernel⟩

/-- The copy under a fence over the whole buffer. -/
def fenced (m : MoverAccess) : State :=
  copying.setFence 7 { enabled := true, base := 0, size := 65536, mover := m, host := .readWrite }

/-- A cancel of slot 3 waits for its element. -/
def cancelling (s : State) : State := waitingFor s .slotCancel [3] (.cancel 3)

theorem test_met_WaitingCancelTakesTheActiveSlot :
    (ElementMoves (cancelling copying) 0 3 5 copyLeg snap0 0 ∧ (copying.slot 3).element + 1 < copyLeg.burst) ∧
    (InFlight (cancelling (fenced .none)) 3 5 copyLeg snap0 ∧
      Fails (cancelling (fenced .none)) 0 copyLeg ((cancelling (fenced .none)).slot 3) (.fenceRead 0x1000)) ∧
    ((releasing .held 0 1).slot 3).standing = .inLeg 5 .held ∧
    ((cancelling (up.updSlot 3 fun x => { x with standing := .done })).slot 3).standing = .done ∧
    up.link.executing = none ∧
    ((releasing .held 0 1).phase = .running ∧ (releasing .held 0 1).arb.mover = .releasing 0 1) :=
  ⟨⟨⟨by decide +kernel, ⟨fun _ _ => by decide +kernel, fun _ _ => by decide +kernel⟩,
      (by decide +kernel : (cancelling copying).word ((cancelling copying).slot 3).src = .good 0), fun _ h => Dest.noConfusion h⟩,
    by decide +kernel⟩,
    ⟨by decide +kernel, .inl ⟨⟨_, rfl⟩, by decide +kernel, rfl⟩⟩, by decide +kernel⟩

theorem test_met_ElementFailureFaultsTheSlot :
    (InFlight (fenced .none) 3 5 copyLeg snap0 ∧ (fenced .none).resetWaits = false ∧
      Fails (fenced .none) 0 copyLeg ((fenced .none).slot 3) (.fenceRead 0x1000)) ∧
    Fails (fenced .read) 0 copyLeg ((fenced .read).slot 3) (.fenceWrite 0x2000) ∧
    (Fails (cancelling (copying.setWord 0x1000 .damaged)) 0 copyLeg ((cancelling (copying.setWord 0x1000 .damaged)).slot 3)
        (.parity 0x1000) ∧ (cancelling copying).resetWaits = false) ∧
    (((up.setMover (.busy 3 snap0)).slot 3).isActive = false ∧
      ((copying.updLeg 5 fun e => { e with record := none }).leg 5).record = none) :=
  ⟨⟨by decide +kernel, by decide +kernel, .inl ⟨⟨_, rfl⟩, by decide +kernel, rfl⟩⟩,
    .inr (.inl ⟨fun _ _ => by decide +kernel, ⟨_, rfl⟩, by decide +kernel, rfl⟩),
    ⟨.inr (.inr ⟨⟨fun _ _ => by decide +kernel, fun _ _ => by decide +kernel⟩, ⟨_, rfl⟩, by decide +kernel, rfl⟩), by decide +kernel⟩,
    by decide +kernel⟩

theorem test_met_LastElementCommitsTheBurst :
    (ElementMoves copyingLast 0 3 5 copyLeg snap0 0 ∧ (copyingLast.slot 3).element + 1 = copyLeg.burst ∧
      0 < (copyingLast.slot 3).remaining - 1) ∧
    (ElementMoves (cancelling copyingEnd) 0 3 5 copyLeg snap0 0 ∧ ((cancelling copyingEnd).slot 3).element + 1 = copyLeg.burst ∧
      ((cancelling copyingEnd).slot 3).remaining - 1 = 0 ∧ copyLeg.expect = none ∧ (cancelling copyingEnd).resetWaits = false) :=
  ⟨⟨⟨by decide +kernel, ⟨fun _ _ => by decide +kernel, fun _ _ => by decide +kernel⟩,
      (by decide +kernel : copyingLast.word (copyingLast.slot 3).src = .good 0), fun _ h => Dest.noConfusion h⟩,
      by decide +kernel⟩,
    ⟨by decide +kernel, ⟨fun _ _ => by decide +kernel, fun _ _ => by decide +kernel⟩,
      (by decide +kernel : (cancelling copyingEnd).word ((cancelling copyingEnd).slot 3).src = .good 0),
      fun _ h => Dest.noConfusion h⟩,
    by decide +kernel⟩

theorem test_met_TheBestReadySlotIsGrantedOrTheTopPopped :
    (up.arb.stack = [] ∧ (∀ i, (up.slot i).isReady = false) ∧ challenged.arb.stack = [] ∧ challenged.bestReady = some 9) ∧
    (stacked.bestReady = none ∧ ((stacked.setStack (stacked.arb.stack.drop 1)).slot 3).standing = .inLeg 5 .suspended ∧
      (stacked.leg 5).record = some copyLeg) ∧
    (let t := challenged.setStack [{ slot := 3, snapshot := snap0 }]
     t.bestReady = some 9 ∧ (t.slot 3).setup.priority < (t.slot 9).setup.priority ∧ (t.slot 9).setup.preempt = true) := by
  decide +kernel

theorem test_met_AddressesMoveAndDigestFolds :
    (buf 0).ring.val = 0 ∧ ({ addr := 0, step := 0, ring := 16, skip := 0 } : Path).ring.val ≠ 0 ∧
      ({ addr := 0, step := 0, ring := 1, skip := 0 } : Path).ring.val ≠ 0 ∧ (∀ p, captureLeg.src ≠ .buffer p) ∧
      (∀ p, playLeg.dst ≠ .buffer p) ∧ playLeg.src = .buffer (buf 0x3000) ∧ captureLeg.dst = .buffer (buf 0x0400) :=
  ⟨by decide, by decide, by decide, fun _ h => Source.noConfusion h, fun _ h => Dest.noConfusion h, rfl, rfl⟩

/-- The copy with its next element waiting in the queue. -/
def running : State := { copying with pending := [.element ⟨0, 0, 0⟩] }

/-- The leg store of `running`. -/
theorem running_leg (l : LegIx) :
    running.leg l = if l = 5 then { record := some copyLeg, pins := 1 } else { record := none, pins := 0 } := by
  show (up.updLeg 5 fun e => { record := some copyLeg, pins := e.pins + 1 }).leg l = _
  have hu : ∀ m, up.leg m = LegEntry.initial := fun m => by simp [up, State.leg, State.reset]
  rw [State.leg_updLeg]
  by_cases h : l = 5
  · simp [h, hu, LegEntry.initial]
  · simp [h, Ne.symm h, hu, LegEntry.initial]

/-- The pin law of `running`. -/
theorem running_pins : PinLaw running := by
  intro l
  have hc : ∀ i : SlotIx, (running.slot i).currentLeg = if i = 3 then some 5 else none := by decide +kernel
  rw [running_leg]
  by_cases h : l = 5
  · subst h
    exact ⟨by decide +kernel, fun _ => rfl⟩
  · simp only [if_neg h, State.users]
    refine ⟨?_, fun h => absurd h (by decide)⟩
    rw [List.filter_eq_nil_iff.mpr]
    · rfl
    · intro i _
      rw [hc]
      by_cases hi : i = 3
      · simp [hi, Ne.symm h]
      · simp [hi]

/-- The leg law of `running`. -/
theorem running_legs : LegLaw running := by
  intro l r hr
  rw [running_leg] at hr
  by_cases h : l = 5
  · simp only [h, if_true, Option.mem_def, Option.some.injEq] at hr
    subst hr
    decide
  · simp [h] at hr

theorem test_met_ReportLawKept : ReportLaw full ∧ goesOn (step { running with reports := full }) = true := by decide +kernel
theorem test_met_LinkLawKept :
    LinkLaw (waitingFor running .slotCancel [3] (.cancel 3)).link ∧ goesOn (step (waitingFor running .slotCancel [3] (.cancel 3))) = true := by
  decide +kernel
theorem test_met_PinLawKept : PinLaw running ∧ goesOn (step running) = true := ⟨running_pins, by decide +kernel⟩
theorem test_met_MemoryPortAndLegLawsKept : memWf running.mem = true ∧ (∀ p, PortLaw (running.port p)) ∧ LegLaw running :=
  ⟨by decide +kernel, by decide +kernel, running_legs⟩
theorem test_met_BindingAndFaultLawsKept : BindingLaw running ∧ FaultLaw (faulted (.parity 0)) := by decide +kernel
theorem test_met_ArbiterLawKept : ArbiterLaw running ∧ ArbiterLaw challenged := by decide +kernel
theorem test_met_ElementCreditAndRemainingLawsKept : ElementLaw running ∧ CreditLaw running ∧ RemainingLaw running := by
  decide +kernel
theorem test_met_TransferLawKeptAndNothingStops : TransferLaw running ∧ goesOn (step running) = true :=
  ⟨⟨running_pins, by decide +kernel, by decide +kernel, by decide +kernel, running_legs, by decide +kernel, by decide +kernel,
    by decide +kernel⟩, by decide +kernel⟩

end Sys2Proof.Tests
end

section
/-! # The rows of the line touch the link alone

What the receiver, the sorting of a frame and a queued reply do is said once here: of all the blocks only the link changes. -/

namespace Sys2Proof.Machine

/-- Only the link differs between the two states. -/
def State.OnlyLink (s t : State) : Prop := ∃ k : Link, t = { s with link := k }

variable {s t u : State}

theorem State.OnlyLink.refl (s : State) : s.OnlyLink s := ⟨s.link, rfl⟩

theorem State.OnlyLink.trans (hst : s.OnlyLink t) (htu : t.OnlyLink u) : s.OnlyLink u := by
  obtain ⟨k, rfl⟩ := hst
  obtain ⟨k', rfl⟩ := htu
  exact ⟨k', rfl⟩

theorem State.onlyLink_updLink (s : State) (f : Link → Link) : s.OnlyLink (s.updLink f) := ⟨_, rfl⟩

theorem State.onlyLink_count (s : State) (f : Counters → Counters) : s.OnlyLink (s.count f) := ⟨_, rfl⟩

theorem State.onlyLink_toHunt (s : State) : s.OnlyLink s.toHunt := ⟨_, rfl⟩

theorem State.onlyLink_keep (s : State) (r : Receiver) : s.OnlyLink (s.keep r) := ⟨_, rfl⟩

theorem State.onlyLink_answer (s : State) (r : Request) (rep : Reply) : s.OnlyLink (s.answer r rep) := ⟨_, rfl⟩

theorem State.onlyLink_immediate (s : State) (f : Frame) : s.OnlyLink (s.immediate f) := by
  rcases State.immediate_cases (s := s) f with ⟨-, h⟩ | ⟨-, h⟩
  · exact h ▸ s.onlyLink_updLink _
  · exact h ▸ s.onlyLink_count _

theorem State.onlyLink_sortInbox (s : State) (r : Request) : s.OnlyLink (s.sortInbox r) := by
  unfold State.sortInbox
  split
  · exact s.onlyLink_updLink _
  · exact (s.onlyLink_count _).trans (State.onlyLink_immediate _ _)

theorem State.onlyLink_sortInUse (s : State) (r : Request) : s.OnlyLink (s.sortInUse r) := by
  unfold State.sortInUse
  split
  · split
    · exact s.onlyLink_count _
    · exact s.onlyLink_immediate _
  · exact s.onlyLink_sortInbox r

theorem State.onlyLink_sortCache (s : State) (r : Request) : s.OnlyLink (s.sortCache r) := by
  unfold State.sortCache
  split
  · split
    · exact (s.onlyLink_count _).trans (State.onlyLink_immediate _ _)
    · exact (s.onlyLink_updLink _).trans (State.onlyLink_sortInUse _ _)
  · exact s.onlyLink_sortInUse r

theorem State.onlyLink_sortFrame (s : State) (kind tag : Byte) (body : List Byte) (crc : Crc) :
    s.OnlyLink (s.sortFrame kind tag body crc) := by
  unfold State.sortFrame
  split
  · exact s.onlyLink_immediate _
  · exact s.onlyLink_sortCache _

theorem State.onlyLink_checkFrame (s : State) (len : Byte) (kept : List Byte) (low high : Byte) :
    s.OnlyLink (s.checkFrame len kept low high) := by
  unfold State.checkFrame
  dsimp only
  split
  · split
    · exact s.onlyLink_sortFrame _ _ _ _
    · exact .refl s
  · exact s.onlyLink_count _

/-- A delivered byte changes the link alone (R176–R183). -/
theorem State.onlyLink_deliver (s : State) (b : Byte) : s.OnlyLink (s.deliver b) := by
  unfold State.deliver
  split
  · split
    · exact s.onlyLink_keep _
    · exact .refl s
  · split
    · exact (s.onlyLink_count _).trans (State.onlyLink_toHunt _)
    · exact s.onlyLink_keep _
  · split
    · exact s.onlyLink_keep _
    · exact s.onlyLink_keep _
  · exact s.onlyLink_keep _
  · exact s.onlyLink_toHunt.trans (State.onlyLink_checkFrame _ _ _ _ _)

theorem State.onlyLink_deliverUnlessBreak (s : State) (b : Byte) : s.OnlyLink (s.deliverUnlessBreak b) := by
  unfold State.deliverUnlessBreak
  split
  · exact .refl s
  · exact s.onlyLink_deliver b

end Sys2Proof.Machine
end

section
/-! # The pin law

Two ways a step can meet the pin law (R12). Most operations move no pin: `State.SamePins` says so, and such a step keeps the law.
The others move one slot from a leg, or from none, to a leg, or to none, and move that slot's pin with it: `pinLaw_move`. -/

namespace Sys2Proof.Machine

variable {s t u : State} {i : SlotIx} {l n : LegIx}

/-! ## No pin moves -/

/-- No pin moves from s to t: every leg has the pins it had, no LOADED leg becomes FREE, and every slot has the current leg it
had. -/
structure State.SamePins (s t : State) : Prop where
  pins : ∀ l, (t.leg l).pins = (s.leg l).pins
  loaded : ∀ l, (s.leg l).record.isSome = true → (t.leg l).record.isSome = true
  current : ∀ i, (t.slot i).currentLeg = (s.slot i).currentLeg

theorem State.SamePins.trans (hst : s.SamePins t) (htu : t.SamePins u) : s.SamePins u where
  pins l := (htu.pins l).trans (hst.pins l)
  loaded l h := htu.loaded l (hst.loaded l h)
  current i := (htu.current i).trans (hst.current i)

/-- A step that leaves the leg store and the slot table as they were moves no pin. -/
theorem State.SamePins.of_tables (hl : t.legs = s.legs) (hs : t.slots = s.slots) : s.SamePins t where
  pins l := by rw [State.leg, State.leg, hl]
  loaded l h := by rw [State.leg, hl]; exact h
  current i := by rw [State.slot, State.slot, hs]

theorem State.SamePins.refl (s : State) : s.SamePins s := .of_tables rfl rfl

theorem State.OnlyLink.samePins (h : s.OnlyLink t) : s.SamePins t := by
  obtain ⟨k, rfl⟩ := h
  exact .of_tables rfl rfl

theorem State.samePins_setMover (s : State) (m : Mover) : s.SamePins (s.setMover m) := .of_tables rfl rfl

theorem State.samePins_setStack (s : State) (st : List Suspended) : s.SamePins (s.setStack st) := .of_tables rfl rfl

theorem State.samePins_report (s : State) (b : ReportBody) : s.SamePins (s.report b) := .of_tables rfl rfl

theorem State.samePins_answer (s : State) (r : Request) (rep : Reply) : s.SamePins (s.answer r rep) := .of_tables rfl rfl

theorem State.samePins_holdEngine (s : State) (r : Request) (w : Wait) : s.SamePins (s.holdEngine r w) := .of_tables rfl rfl

theorem State.samePins_takeFence (s : State) (k : FenceIx) (f : Fence) : s.SamePins (s.takeFence k f) :=
  .of_tables (by simp) (by simp)

theorem State.samePins_updReports (s : State) (f : ReportQueue → ReportQueue) : s.SamePins (s.updReports f) := .of_tables rfl rfl

theorem State.samePins_updPort (s : State) (p : PortIx) (f : Port → Port) : s.SamePins (s.updPort p f) := .of_tables rfl rfl

theorem State.samePins_setTrigger (s : State) (k : TrigIx) (e : Trigger) : s.SamePins (s.setTrigger k e) := .of_tables rfl rfl

theorem State.samePins_settleCommit (s : State) (l : LegIx) : s.SamePins (s.settleCommit l) := .of_tables (by simp) (by simp)

theorem State.samePins_markStep (s : State) (i : SlotIx) (l : LegIx) (r : LegRecord) : s.SamePins (s.markStep i l r) :=
  .of_tables (by simp) (by simp)

theorem State.samePins_pass (s : State) (k : EventKind) (i : SlotIx) : s.SamePins (s.pass k i) :=
  .of_tables (by simp) (by simp)

/-- A slot has a current leg exactly in the seven states that hold one (R27). -/
theorem Slot.currentLeg_of_standing {x : Slot} {st : LegState} (h : x.standing = .inLeg l st) : x.currentLeg = some l := by
  simp [Slot.currentLeg, h]

theorem Slot.currentLeg_congr {x y : Slot} (h : x.standing = y.standing) : x.currentLeg = y.currentLeg := by
  simp [Slot.currentLeg, h]

theorem Slot.currentLeg_of_atRest {x : Slot} (h : x.atRest = true) : x.currentLeg = none := by
  unfold Slot.atRest at h
  unfold Slot.currentLeg
  split at h
  · next hx => simp [hx]
  · next hx => simp [hx]
  · cases h

/-- A change of one slot that keeps its current leg moves no pin. -/
theorem State.samePins_updSlot {f : Slot → Slot} (h : (f (s.slot i)).currentLeg = (s.slot i).currentLeg) :
    s.SamePins (s.updSlot i f) where
  pins _ := rfl
  loaded _ h := h
  current j := by
    rw [State.slot_updSlot]
    split
    · next hij => exact hij ▸ h
    · rfl

theorem State.samePins_setLegState (h : (s.slot i).currentLeg = some l) (st : LegState) : s.SamePins (s.setLegState i l st) :=
  State.samePins_updSlot ((Slot.currentLeg_of_standing rfl).trans h.symm)

/-- A grant makes a READY slot ACTIVE in the leg it stands in (R75). -/
theorem State.samePins_grant (s : State) (i : SlotIx) : s.SamePins (s.grant i) := by
  unfold State.grant
  split
  · next l hi =>
    have hx : (((s.slot i).burstStart l).1).currentLeg = (s.slot i).currentLeg := by
      rw [Slot.currentLeg_of_standing (Slot.burstStart_standing _ _), Slot.currentLeg_of_standing hi]
    exact (State.samePins_updSlot (f := fun _ => ((s.slot i).burstStart l).1) hx).trans (.of_tables (by simp) (by simp))
  · exact .refl s

/-- A pop makes a SUSPENDED slot ACTIVE again in the leg it stands in (R83). -/
theorem State.samePins_pop (s : State) (top : Suspended) (rest : List Suspended) : s.SamePins (s.pop top rest) := by
  unfold State.pop
  split
  · next l _ hi =>
    exact (State.samePins_setLegState (Slot.currentLeg_of_standing hi) .active).trans (.of_tables (by simp) (by simp))
  · exact .of_tables rfl rfl

theorem State.samePins_select (s : State) : s.SamePins s.select := by
  unfold State.select
  split
  · exact s.samePins_setMover _
  · exact (s.samePins_setMover _).trans (State.samePins_grant _ _)
  · exact s.samePins_pop _ _
  · split
    · exact s.samePins_grant _
    · exact s.samePins_pop _ _

/-- An evaluation of eligibility leaves an ARMED slot in its leg, READY or ACTIVE (R37, R76). -/
theorem State.samePins_evaluate (s : State) (i : SlotIx) : s.SamePins (s.evaluate i) := by
  unfold State.evaluate
  split
  · next l hi =>
    have hready := State.samePins_setLegState (Slot.currentLeg_of_standing hi) .ready
    split
    · split
      · exact hready.trans (State.samePins_grant _ _)
      · exact hready
    · exact .refl s
  · exact .refl s

theorem State.samePins_signal (s : State) (p : PortIx) (was : Bool) : s.SamePins (s.signal p was) := by
  unfold State.signal
  split
  · split
    · exact s.samePins_evaluate _
    · exact .refl s
  · exact .refl s

theorem State.samePins_preemptionCheck (h : (s.slot i).currentLeg = some l) (snap : Snapshot) :
    s.SamePins (s.preemptionCheck i l snap) := by
  have hbegins : s.SamePins s.elementBegins := .of_tables (by simp) (by simp)
  unfold State.preemptionCheck
  split
  · split
    · exact (State.samePins_setLegState h .suspended).trans
        ((State.samePins_setStack _ _).trans (State.samePins_grant _ _))
    · exact hbegins
  · exact hbegins

theorem State.samePins_rollback (s : State) (i : SlotIx) (l : LegIx) (snap : Snapshot) : s.SamePins (s.rollback i l snap) :=
  (State.samePins_updSlot (i := i) (f := fun x => x.rolledBack snap) (Slot.currentLeg_congr rfl)).trans
    (.of_tables (by simp [State.rollback]) (by simp [State.rollback]))

theorem State.samePins_becomeHeld (h : (s.slot i).currentLeg = some l) : s.SamePins (s.becomeHeld i l) :=
  (State.samePins_updSlot (f := fun x => { x with standing := .inLeg l .held, holdRequested := false })
    ((Slot.currentLeg_of_standing rfl).trans h.symm)).trans (State.samePins_report _ _)

theorem State.samePins_enterFaulted (h : (s.slot i).currentLeg = some l) (c : FaultCause) (e : Nat) :
    s.SamePins (s.enterFaulted i l c e) := by
  have hfault := State.samePins_updSlot (s := s) (i := i)
    (f := fun x => { x with
      standing := .inLeg l (.faulted { cause := c, leg := l, remaining := (s.slot i).remaining, element := e })
      holdRequested := false }) ((Slot.currentLeg_of_standing rfl).trans h.symm)
  unfold State.enterFaulted
  dsimp only
  split
  · exact hfault
  · exact hfault.trans ((State.samePins_report _ _).trans (State.samePins_pass _ _ _))

theorem State.samePins_goOn (h : (s.slot i).currentLeg = some l) (atCommit : Bool) : s.SamePins (s.goOn i l atCommit) := by
  unfold State.goOn
  split
  · exact State.samePins_setLegState h _
  · exact (State.samePins_setLegState h .armed).trans (State.samePins_evaluate _ _)

/-- A hold leaves the slot in the leg it stands in (R40). -/
theorem State.samePins_hold? (h : s.hold? i = some t) : s.SamePins t := by
  unfold State.hold? at h
  split at h <;> simp only [Option.some.injEq, reduceCtorEq] at h <;> subst h
  · next hi => exact (State.samePins_setLegState (Slot.currentLeg_of_standing hi) .held).trans (State.samePins_report _ _)
  · next hi => exact (State.samePins_setLegState (Slot.currentLeg_of_standing hi) .held).trans (State.samePins_report _ _)
  · next hi => exact (State.samePins_setLegState (Slot.currentLeg_of_standing hi) .held).trans (State.samePins_report _ _)
  · exact State.samePins_updSlot (Slot.currentLeg_congr rfl)
  · exact State.samePins_updSlot (Slot.currentLeg_congr rfl)
  · exact .refl _

theorem State.samePins_addCredits {k : Nat} (h : s.addCredits i k = .ok t) : s.SamePins t := by
  unfold State.addCredits at h
  split at h
  · cases h
  · split at h
    · cases h
    · split at h
      · cases h
      · cases h
        exact (State.samePins_updSlot (Slot.currentLeg_congr rfl)).trans (State.samePins_evaluate _ _)

/-! ## A slot moves its pin -/

/-- USERS, counted slot by slot. -/
theorem State.users_eq_sum (s : State) (l : LegIx) :
    s.users l = ∑ j : SlotIx, if (s.slot j).currentLeg = some l then 1 else 0 := by
  rw [State.users, Fin.sum_univ_def, ← List.countP_eq_length_filter]
  induction List.finRange 16 with
  | nil => rfl
  | cons j js ih => simp [List.countP_cons, ih, Nat.add_comm]

theorem State.users_le (s : State) (l : LegIx) : s.users l ≤ 16 :=
  (List.length_filter_le _ _).trans (by simp)

/-- Where slot i alone changes its current leg, USERS of a leg changes by what slot i gives up and takes. -/
theorem State.users_move (h : ∀ j, j ≠ i → (t.slot j).currentLeg = (s.slot j).currentLeg) (l : LegIx) :
    t.users l + (if (s.slot i).currentLeg = some l then 1 else 0) =
      s.users l + (if (t.slot i).currentLeg = some l then 1 else 0) := by
  have hrest : ∑ j ∈ Finset.univ.erase i, (if (t.slot j).currentLeg = some l then 1 else 0) =
      ∑ j ∈ Finset.univ.erase i, (if (s.slot j).currentLeg = some l then 1 else 0) :=
    Finset.sum_congr rfl fun j hj => by rw [h j (Finset.ne_of_mem_erase hj)]
  rw [State.users_eq_sum, State.users_eq_sum, ← Finset.add_sum_erase _ _ (Finset.mem_univ i),
    ← Finset.add_sum_erase (a := i) _ (fun j => if (s.slot j).currentLeg = some l then 1 else 0) (Finset.mem_univ i), hrest]
  omega

/-- The pin law is kept where slot i alone changes its current leg, takes its pin along, and no LOADED leg becomes FREE (R13). -/
theorem pinLaw_move (hs : PinLaw s) (hslots : ∀ j, j ≠ i → (t.slot j).currentLeg = (s.slot j).currentLeg)
    (hpins : ∀ l, (t.leg l).pins + (if (s.slot i).currentLeg = some l then 1 else 0) =
      (s.leg l).pins + (if (t.slot i).currentLeg = some l then 1 else 0))
    (hkept : ∀ l, (s.leg l).record.isSome = true → (t.leg l).record.isSome = true)
    (htaken : ∀ l, (t.slot i).currentLeg = some l → (t.leg l).record.isSome = true) : PinLaw t := by
  intro l
  obtain ⟨hcount, hloaded⟩ := hs l
  have husers := State.users_move hslots l
  have hpins := hpins l
  refine ⟨by omega, fun hpos => ?_⟩
  by_cases htl : (t.slot i).currentLeg = some l
  · exact htaken l htl
  · rw [if_neg htl] at hpins
    exact hkept l (hloaded (by omega))

/-- A step that moves no pin keeps the pin law. -/
theorem State.SamePins.pinLaw (h : s.SamePins t) (hs : PinLaw s) : PinLaw t := by
  intro l
  have husers : t.users l = s.users l := by simp only [State.users, h.current]
  obtain ⟨hcount, hloaded⟩ := hs l
  rw [h.pins l, husers]
  exact ⟨hcount, fun hpos => h.loaded l (hloaded hpos)⟩

/-- A leg that a slot stands in is pinned (R12). -/
theorem pins_pos_of_pinLaw (hs : PinLaw s) (h : (s.slot i).currentLeg = some l) : 0 < (s.leg l).pins := by
  rw [(hs l).1, State.users]
  exact List.length_pos_of_mem (List.mem_filter.mpr ⟨List.mem_finRange i, decide_eq_true h⟩)

theorem State.pins_pin (s : State) (l m : LegIx) : ((s.pin l).leg m).pins = (s.leg m).pins + if l = m then 1 else 0 := by
  rw [State.pin, State.leg_updLeg]
  split
  · next h => simp [h]
  · simp

theorem State.pins_unpin (s : State) (l m : LegIx) : ((s.unpin l).leg m).pins = (s.leg m).pins - if l = m then 1 else 0 := by
  rw [State.unpin, State.leg_updLeg]
  split
  · next h => simp [h]
  · simp

@[simp] theorem State.record_pin (s : State) (l m : LegIx) : ((s.pin l).leg m).record = (s.leg m).record := by
  rw [State.pin, State.leg_updLeg]
  split
  · next h => simp [h]
  · rfl

@[simp] theorem State.record_unpin (s : State) (l m : LegIx) : ((s.unpin l).leg m).record = (s.leg m).record := by
  rw [State.unpin, State.leg_updLeg]
  split
  · next h => simp [h]
  · rfl

/-- A slot with no current leg enters a LOADED leg and pins it (R13). -/
theorem pinLaw_enter (hs : PinLaw s) {f : Slot → Slot} (h : (s.slot i).currentLeg = none)
    (hf : (f (s.slot i)).currentLeg = some l) (hl : (s.leg l).record.isSome = true) : PinLaw ((s.updSlot i f).pin l) := by
  refine pinLaw_move (i := i) hs (fun j hj => by simp [hj.symm]) (fun m => ?_) (fun m hm => by simpa using hm) fun m hm => ?_
  · simp [State.pins_pin, h, hf]
  · simp only [State.slot_pin, State.slot_updSlot_same, hf, Option.some.injEq] at hm
    simpa [← hm] using hl

/-- A slot leaves its leg for a state that holds none and gives its pin up (R13). -/
theorem pinLaw_leave (hs : PinLaw s) {f : Slot → Slot} (h : (s.slot i).currentLeg = some l)
    (hf : (f (s.slot i)).currentLeg = none) : PinLaw ((s.updSlot i f).unpin l) := by
  have hpos := pins_pos_of_pinLaw hs h
  refine pinLaw_move (i := i) hs (fun j hj => by simp [hj.symm]) (fun m => ?_) (fun m hm => by simpa using hm) fun m hm => ?_
  · simp only [State.pins_unpin, State.leg_updSlot, h, State.slot_unpin, State.slot_updSlot_same, hf, Option.some.injEq,
      reduceCtorEq, if_false]
    split
    · next hlm => subst hlm; omega
    · omega
  · simp [hf] at hm

/-- A slot goes from its leg to a LOADED leg, perhaps the same one: the first pin is given up and the second taken (R13, R66). -/
theorem pinLaw_change (hs : PinLaw s) {f : Slot → Slot} (h : (s.slot i).currentLeg = some l)
    (hf : (f (s.slot i)).currentLeg = some n) (hn : (s.leg n).record.isSome = true) :
    PinLaw (((s.updSlot i f).unpin l).pin n) := by
  have hpos := pins_pos_of_pinLaw hs h
  refine pinLaw_move (i := i) hs (fun j hj => by simp [hj.symm]) (fun m => ?_) (fun m hm => by simpa using hm) fun m hm => ?_
  · simp only [State.pins_pin, State.pins_unpin, State.leg_updSlot, h, State.slot_pin, State.slot_unpin,
      State.slot_updSlot_same, hf, Option.some.injEq]
    by_cases hlm : l = m
    · subst hlm; simp only [if_true]; omega
    · simp [hlm]
  · simp only [State.slot_pin, State.slot_unpin, State.slot_updSlot_same, hf, Option.some.injEq] at hm
    simpa [← hm] using hn

end Sys2Proof.Machine
end

section
/-! # The pin law through the operations that move pins

Arming, the end of a leg, the end of a chain, a cancel and the resets, each by the way its slot moves; then the bursts and the release
that are made of them. -/

namespace Sys2Proof.Machine

variable {s t u : State} {i : SlotIx} {l n : LegIx}

/-! ## Arming, leg ends, cancels -/

/-- The leg check passes only a LOADED leg (R30). -/
theorem State.loaded_of_legCheck {port : Option PortIx} (h : s.legCheck port l = true) : (s.leg l).record.isSome = true := by
  unfold State.legCheck at h
  split at h
  · cases h
  · next hr => simp [hr]

theorem State.pinLaw_arm (hs : PinLaw s) (h : s.arm i = .ok t) : PinLaw t := by
  unfold State.arm at h
  split at h
  · next hrest =>
    split at h
    · cases h
    · split at h
      · cases h
      · split at h
        · next hcheck =>
          split at h
          · cases h
            exact (State.samePins_evaluate _ _).pinLaw
              (pinLaw_enter hs (Slot.currentLeg_of_atRest hrest) (Slot.currentLeg_of_standing rfl)
                (State.loaded_of_legCheck hcheck))
          · cases h
        · cases h
  · cases h

theorem State.pinLaw_chainEnds (hs : PinLaw s) (h : (s.slot i).currentLeg = some l) : PinLaw (s.chainEnds i l) :=
  ((State.samePins_report _ _).trans (State.samePins_pass _ _ _)).pinLaw (pinLaw_leave hs h rfl)

theorem State.pinLaw_entersNext (hs : PinLaw s) (h : (s.slot i).currentLeg = some l) (hn : (s.leg n).record.isSome = true)
    (r rn : LegRecord) (atCommit : Bool) : PinLaw (s.entersNext i l r n rn atCommit) := by
  have hmoved := pinLaw_change (f := fun x => x.entered n rn .armed) hs h (Slot.currentLeg_of_standing rfl) hn
  have hcur : ((((s.updSlot i fun x => x.entered n rn .armed).unpin l).pin n).slot i).currentLeg = some n := by
    simp [Slot.entered, Slot.currentLeg]
  unfold State.entersNext
  dsimp only
  split
  · exact (State.samePins_becomeHeld hcur).pinLaw hmoved
  · exact (State.samePins_goOn hcur atCommit).pinLaw hmoved

theorem State.pinLaw_legEndStep3 (hs : PinLaw s) (h : (s.slot i).currentLeg = some l) (r : LegRecord) (atCommit : Bool) :
    PinLaw (s.legEndStep3 i l r atCommit) := by
  have hfault := (State.samePins_enterFaulted h .leg 0).pinLaw hs
  unfold State.legEndStep3
  split
  · exact State.pinLaw_chainEnds hs h
  · split
    · next hn =>
      split
      · exact State.pinLaw_entersNext hs h (by simp [hn]) _ _ _
      · exact hfault
    · exact hfault

theorem State.pinLaw_legEndStep2 (hs : PinLaw s) (h : (s.slot i).currentLeg = some l) (r : LegRecord) (atCommit : Bool) :
    PinLaw (s.legEndStep2 i l r atCommit) := by
  have hstep (u : State) (hu : s.SamePins u) : PinLaw ((u.pass .legEnd i).legEndStep3 i l r atCommit) :=
    have hpass := hu.trans (u.samePins_pass .legEnd i)
    State.pinLaw_legEndStep3 (hpass.pinLaw hs) ((hpass.current i).trans h) r atCommit
  unfold State.legEndStep2
  dsimp only
  split
  · exact hstep _ (s.samePins_report _)
  · exact hstep s (.refl s)

theorem State.pinLaw_legEndStep1 (hs : PinLaw s) (h : (s.slot i).currentLeg = some l) (r : LegRecord) :
    PinLaw (s.legEndStep1 i l r) := by
  unfold State.legEndStep1
  split
  · exact (State.samePins_enterFaulted h _ 0).pinLaw hs
  · exact State.pinLaw_legEndStep2 hs h r true

theorem State.pinLaw_afterBurst (hs : PinLaw s) (h : (s.slot i).currentLeg = some l) (r : LegRecord) :
    PinLaw (s.afterBurst i l r) := by
  unfold State.afterBurst
  split
  · exact State.pinLaw_legEndStep1 hs h r
  · split
    · exact (State.samePins_becomeHeld h).pinLaw hs
    · exact (State.samePins_goOn h true).pinLaw hs

/-- A burst's commit keeps the pin law: its slot stands in the leg up to leg-end processing (R59). -/
theorem State.pinLaw_commit (hs : PinLaw s) (h : (s.slot i).currentLeg = some l) (r : LegRecord) : PinLaw (s.commit i l r) := by
  have hsteps : s.SamePins
      (((((s.settleCommit l).updSlot i fun x => x.burstDone r).setMover (.releasing 0 0)).markStep i l r).pass .burstEnd i) :=
    (s.samePins_settleCommit l).trans <| (State.samePins_updSlot (Slot.currentLeg_congr rfl)).trans <|
      (State.samePins_setMover _ _).trans <| (State.samePins_markStep _ i l r).trans (State.samePins_pass _ .burstEnd i)
  exact State.pinLaw_afterBurst (hsteps.pinLaw hs) ((hsteps.current i).trans h) r

theorem State.pinLaw_idleFrom (hs : PinLaw s) (h : (s.slot i).currentLeg = some l) (e : Nat) : PinLaw (s.idleFrom i l e) :=
  (State.samePins_report _ _).pinLaw (pinLaw_leave hs h rfl)

theorem State.pinLaw_cancelSuspended (hs : PinLaw s) (h : (s.slot i).currentLeg = some l) : PinLaw (s.cancelSuspended i l) := by
  have hidle (u : State) (hu : s.SamePins u) (st : List Suspended) (e : Nat) : PinLaw ((u.setStack st).idleFrom i l e) :=
    have hstack := hu.trans (u.samePins_setStack st)
    State.pinLaw_idleFrom (hstack.pinLaw hs) ((hstack.current i).trans h) e
  unfold State.cancelSuspended
  dsimp only
  split
  · exact hidle _ (s.samePins_rollback _ _ _) _ _
  · exact hidle s (.refl s) _ _

/-- A cancel gives up the pin of the leg its slot stands in, where it stands in one (R44). -/
theorem State.pinLaw_cancelAtOnce (hs : PinLaw s) (i : SlotIx) : PinLaw (s.cancelAtOnce i) := by
  unfold State.cancelAtOnce
  split
  · exact hs
  · next hi =>
    have hcur : (Slot.cancelled (s.slot i)).currentLeg = (s.slot i).currentLeg := by simp [Slot.cancelled, Slot.currentLeg, hi]
    exact ((State.samePins_updSlot hcur).trans (State.samePins_report _ _)).pinLaw hs
  · next hi => exact State.pinLaw_cancelSuspended hs (Slot.currentLeg_of_standing hi)
  · next hi => exact State.pinLaw_idleFrom hs (Slot.currentLeg_of_standing hi) 0

/-! ## The release and the resets -/

theorem State.pinLaw_cancelWaiting (hs : PinLaw s) : PinLaw s.cancelWaiting := by
  rcases State.cancelWaiting_cases (s := s) with ⟨e, i, -, -, h⟩ | ⟨-, h⟩
  · rw [h]
    exact (State.samePins_answer _ _ _).pinLaw (State.pinLaw_cancelAtOnce hs i)
  · rwa [h]

theorem State.pinLaw_release (hs : PinLaw s) : PinLaw s.release :=
  (State.samePins_select _).pinLaw (State.pinLaw_cancelWaiting hs)

theorem State.pinLaw_releaseAt (hs : PinLaw s) (c n : Nat) : PinLaw (s.releaseAt c n) := by
  unfold State.releaseAt
  split
  · exact State.pinLaw_release hs
  · refine (State.samePins_setMover _ _).pinLaw ?_
    split
    · exact State.pinLaw_cancelWaiting hs
    · exact hs

theorem State.pinLaw_passPoint (hs : PinLaw s) : PinLaw s.passPoint := by
  unfold State.passPoint
  split
  · split
    · exact State.pinLaw_release hs
    · refine (State.samePins_setMover _ _).pinLaw ?_
      split
      · exact State.pinLaw_cancelWaiting hs
      · exact hs
  · exact hs

/-- With every slot IDLE and every pin count 0 the pin law holds, whatever the leg store holds. -/
theorem pinLaw_of_all_idle (hpins : ∀ l, (s.leg l).pins = 0) (hslots : ∀ i, (s.slot i).currentLeg = none) : PinLaw s := by
  intro l
  refine ⟨?_, fun h => absurd h (by simp [hpins l])⟩
  simp [hpins l, State.users, hslots]

theorem pinLaw_reset : PinLaw State.reset :=
  pinLaw_of_all_idle (fun l => by simp [State.reset, State.leg, LegEntry.initial])
    fun i => by simp [State.reset, State.slot, Slot.initial, Slot.currentLeg]

/-- ENGINE-RESET leaves every slot IDLE and every leg unpinned (R193), whatever went before. -/
theorem State.pinLaw_engineReset (s : State) (r : Request) : PinLaw (s.engineReset r) := by
  refine pinLaw_of_all_idle (fun l => ?_) fun i => ?_
  · simp [State.engineReset, State.resetBlocks, State.leg]
  · simp [State.engineReset, State.resetBlocks, State.slot, Slot.initial, Slot.currentLeg]

/-! ## The element -/

theorem State.pinLaw_endBurst (hs : PinLaw s) (c n : Nat) : PinLaw (s.endBurst c n) := by
  unfold State.endBurst
  split
  · split
    · exact s.pinLaw_engineReset _
    · exact State.pinLaw_releaseAt hs c n
  · exact State.pinLaw_releaseAt hs c n

theorem State.pinLaw_elementFails (hs : PinLaw s) (h : (s.slot i).currentLeg = some l) (c n : Nat) (snap : Snapshot)
    (cause : FaultCause) : PinLaw (s.elementFails c n i l snap cause) := by
  have hback := (s.samePins_rollback i l snap).trans (State.samePins_setMover _ (.releasing 0 0))
  exact State.pinLaw_endBurst
    ((State.samePins_enterFaulted ((hback.current i).trans h) cause (s.slot i).element).pinLaw (hback.pinLaw hs)) c n

theorem State.pinLaw_cancelActive (hs : PinLaw s) (h : (s.slot i).currentLeg = some l) (n : Nat) (snap : Snapshot) (r : Request) :
    PinLaw (s.cancelActive n i l snap r) := by
  have hback := (s.samePins_rollback i l snap).trans (State.samePins_setMover _ (.releasing 0 0))
  exact State.pinLaw_releaseAt
    ((State.samePins_answer _ _ _).pinLaw (State.pinLaw_idleFrom (hback.pinLaw hs) ((hback.current i).trans h) _)) 0 n

theorem State.pinLaw_midBurst (hs : PinLaw s) (h : (s.slot i).currentLeg = some l) (n : Nat) (snap : Snapshot) :
    PinLaw (s.midBurst n i l snap) := by
  have hcheck := (State.samePins_preemptionCheck h snap).pinLaw hs
  unfold State.midBurst
  split
  · split
    · split
      · exact State.pinLaw_cancelActive hs h n snap _
      · exact hcheck
    · exact s.pinLaw_engineReset _
    · exact hcheck
  · exact hcheck

theorem State.pinLaw_elementCompletes (hs : PinLaw s) (h : (s.slot i).currentLeg = some l) (c n : Nat) (r : LegRecord)
    (snap : Snapshot) : PinLaw (s.elementCompletes c n i l r snap) := by
  unfold State.elementCompletes
  split
  · have hrise := State.samePins_updSlot (s := s) (i := i) (f := fun x => { x with element := x.element + 1 })
      (Slot.currentLeg_congr rfl)
    exact State.pinLaw_midBurst (hrise.pinLaw hs) ((hrise.current i).trans h) n snap
  · exact State.pinLaw_endBurst (State.pinLaw_commit hs h r) c n

theorem State.samePins_elementRead {r : LegRecord} {x : Slot} {w : Word} (h : s.elementRead r x = .word w t) :
    s.SamePins t := by
  unfold State.elementRead at h
  split at h
  · split at h <;> cases h
    exact .refl s
  · split at h <;> cases h
    exact .of_tables rfl rfl
  · cases h
    exact .refl s

theorem State.samePins_elementWrite {r : LegRecord} {x : Slot} {w : Word} (h : s.elementWrite r x w = .ok t) :
    s.SamePins t := by
  unfold State.elementWrite at h
  split at h
  · cases h
    exact .of_tables rfl rfl
  · split at h <;> cases h
    exact .of_tables rfl rfl

theorem State.samePins_elementSteps {fences : Vector Fence 8} {r : LegRecord} (h : s.elementSteps fences i r = .moved t) :
    s.SamePins t := by
  unfold State.elementSteps at h
  split at h
  · cases h
  · split at h
    · cases h
    · split at h
      · cases h
      · cases h
      · next hread =>
        split at h
        · cases h
        · next hwrite =>
          cases h
          exact (State.samePins_elementRead hread).trans <|
            (State.samePins_elementWrite hwrite).trans (State.samePins_updSlot (Slot.currentLeg_congr rfl))

theorem State.samePins_giveBackGrant (s : State) (r : LegRecord) : s.SamePins (s.giveBackGrant r) := by
  unfold State.giveBackGrant
  split
  · exact .of_tables rfl rfl
  · exact .refl s

theorem State.pinLaw_runElement (hs : PinLaw s) (h : (s.slot i).currentLeg = some l) {order : ElementOrder} {r : LegRecord}
    {snap : Snapshot} (hrun : s.runElement order i l r snap = .next t) : PinLaw t := by
  unfold State.runElement at hrun
  split at hrun
  · next hsteps =>
    cases hrun
    have hmoved := (State.samePins_elementSteps hsteps).trans (State.samePins_giveBackGrant _ r)
    exact State.pinLaw_elementCompletes (hmoved.pinLaw hs) ((hmoved.current i).trans h) _ _ r snap
  · cases hrun
    have hback := s.samePins_giveBackGrant r
    exact State.pinLaw_elementFails (hback.pinLaw hs) ((hback.current i).trans h) _ _ snap _
  · cases hrun

theorem pinLaw_execElement (hs : PinLaw s) {order : ElementOrder} (h : execElement order s = .next t) : PinLaw t := by
  unfold execElement at h
  split at h
  · split at h
    · split at h
      · next hi =>
        split at h
        · split at h
          · cases h
            exact hs
          · exact State.pinLaw_runElement hs (Slot.currentLeg_of_standing hi) h
        · cases h
      · cases h
    · cases h
      exact State.pinLaw_release hs
    · cases h
      exact hs
  · cases h
    exact hs

/-! ## Trigger actions and resumes -/

theorem State.pinLaw_act (hs : PinLaw s) (k : TrigIx) (i : SlotIx) (a : Action) : PinLaw (s.act k i a) := by
  cases a with
  | start =>
    cases h : s.addCredits i 1 with
    | ok t => simpa only [State.act, h] using (State.samePins_addCredits h).pinLaw hs
    | error e => simpa only [State.act, h] using (s.samePins_report _).pinLaw hs
  | arm =>
    cases h : s.arm i with
    | ok t => simpa only [State.act, h] using State.pinLaw_arm hs h
    | error e => simpa only [State.act, h] using (s.samePins_report _).pinLaw hs
  | hold =>
    cases h : s.hold? i with
    | some t => simpa only [State.act, h] using (State.samePins_hold? h).pinLaw hs
    | none => simpa only [State.act, h] using (s.samePins_report _).pinLaw hs

theorem State.pinLaw_fireEntry (hs : PinLaw s) (e : SlotEvent) (k : TrigIx) : PinLaw (s.fireEntry e k) := by
  unfold State.fireEntry
  split
  · split
    · exact State.pinLaw_act ((s.samePins_setTrigger _ _).pinLaw hs) _ _ _
    · exact State.pinLaw_act hs _ _ _
  · exact hs

theorem State.pinLaw_scan (hs : PinLaw s) (e : SlotEvent) : PinLaw (s.scan e) := by
  unfold State.scan
  generalize List.finRange 32 = ks
  induction ks generalizing s with
  | nil => exact State.pinLaw_passPoint hs
  | cons k ks ih => exact ih (State.pinLaw_fireEntry (State.pinLaw_passPoint hs) e k)

theorem State.pinLaw_resumeFaulted (hs : PinLaw s) (h : (s.slot i).currentLeg = some l) {cause : FaultCause}
    (hres : s.resumeFaulted i l cause = .done t) : PinLaw t := by
  have hburst : PinLaw ((s.setLegState i l .armed).evaluate i) :=
    ((State.samePins_setLegState h .armed).trans (State.samePins_evaluate _ _)).pinLaw hs
  cases cause with
  | fenceRead _ | fenceWrite _ | parity _ =>
    simp only [State.resumeFaulted] at hres
    split at hres <;> cases hres
    exact hburst
  | digest _ _ =>
    simp only [State.resumeFaulted] at hres
    split at hres <;> cases hres
    exact State.pinLaw_legEndStep2 hs h _ false
  | leg =>
    simp only [State.resumeFaulted] at hres
    split at hres <;> cases hres
    exact State.pinLaw_legEndStep3 hs h _ false

end Sys2Proof.Machine
end

section
/-! # What every row of the table keeps

A property that a change of the link alone keeps is kept by a request row as soon as its owner keeps it: taking the request, refusing
its body and answering it change the link alone (R185–R187). -/

namespace Sys2Proof.Machine

variable {s t u : State} {P : State → Prop}

theorem State.onlyLink_takeRequest? {k : ReqKind} {r : Request} (h : s.takeRequest? k = some (r, t)) : s.OnlyLink t := by
  obtain ⟨-, -, -, rest, -, -, rfl⟩ := State.takeRequest?_eq_some.mp h
  exact s.onlyLink_updLink _

theorem State.serve_keeps (hlink : ∀ {s t : State}, s.OnlyLink t → P s → P t) {k : ReqKind}
    {owner : Request → State → Host.Outcome State Fault Refusal}
    (howner : ∀ {r t u}, P t → owner r t = .next u → P u) (hs : P s) (h : s.serve k owner = .next u) : P u := by
  rcases s.serve_cases k owner with ⟨-, hserve⟩ | ⟨r, t, st, htake, -, hserve⟩ | ⟨r, t, htake, -, hserve⟩
  · cases hserve.symm.trans h
    exact hs
  · cases hserve.symm.trans h
    exact hlink (t.onlyLink_answer r (Reply.bare st)) (hlink (State.onlyLink_takeRequest? htake) hs)
  · exact howner (hlink (State.onlyLink_takeRequest? htake) hs) (hserve.symm.trans h)

theorem State.serveNow_keeps (hlink : ∀ {s t : State}, s.OnlyLink t → P s → P t) {k : ReqKind}
    {owner : List Byte → State → State × Reply} (howner : ∀ b {t}, P t → P (owner b t).1) (hs : P s)
    (h : s.serveNow k owner = .next u) : P u := by
  refine State.serve_keeps hlink (fun {r t u} ht hu => ?_) hs h
  cases hu
  exact hlink (State.onlyLink_answer _ _ _) (howner r.body ht)

theorem State.whenRunning_keeps {f : State → State} (hf : ∀ {t}, P t → P (f t)) (hs : P s) (h : s.whenRunning f = .next u) :
    P u := by
  unfold State.whenRunning at h
  cases h
  split
  · exact hf hs
  · exact hs

end Sys2Proof.Machine
end

section
/-! # The pin law is kept by every step (O54) -/

namespace Sys2Proof.Machine

variable {s t u : State}

theorem State.OnlyLink.pinLaw (h : s.OnlyLink t) (hs : PinLaw s) : PinLaw t := h.samePins.pinLaw hs

theorem pinLaw_serve {k : ReqKind} {owner : Request → State → Host.Outcome State Fault Refusal}
    (howner : ∀ {r t u}, PinLaw t → owner r t = .next u → PinLaw u) (hs : PinLaw s) (h : s.serve k owner = .next u) :
    PinLaw u := State.serve_keeps State.OnlyLink.pinLaw howner hs h

theorem pinLaw_serveNow {k : ReqKind} {owner : List Byte → State → State × Reply}
    (howner : ∀ b {t}, PinLaw t → PinLaw (owner b t).1) (hs : PinLaw s) (h : s.serveNow k owner = .next u) : PinLaw u :=
  State.serveNow_keeps State.OnlyLink.pinLaw howner hs h

/-- A request that only reads keeps the law. -/
theorem pinLaw_readRow {k : ReqKind} {owner : List Byte → State → State × Reply} (howner : ∀ b t, (owner b t).1 = t)
    (hs : PinLaw s) (h : s.serveNow k owner = .next u) : PinLaw u :=
  pinLaw_serveNow (fun b {t} ht => (howner b t).symm ▸ ht) hs h

/-- A slot request answers RANGE and changes nothing, or acts on its slot (R22). -/
theorem pinLaw_withSlot {b : List Byte} {f : SlotIx → State × Reply} (ht : PinLaw t) (hf : ∀ i, PinLaw (f i).1) :
    PinLaw (withSlot b t f).1 := by
  unfold withSlot
  split
  · exact ht
  · exact hf _

/-! ## The leg store -/

/-- A LOADED entry stays LOADED under LEG_LOAD and LEG_LINK, and its pins stay (R14, R18). -/
theorem State.samePins_writeRecord (s : State) (l : LegIx) (r : LegRecord) :
    s.SamePins (s.updLeg l fun e => { e with record := some r }) where
  pins m := by
    rw [State.leg_updLeg]
    split
    · next h => rw [h]
    · rfl
  loaded m hm := by
    rw [State.leg_updLeg]
    split
    · rfl
    · exact hm
  current _ := rfl

theorem pinLaw_execLegLoad (hs : PinLaw s) (h : execLegLoad s = .next u) : PinLaw u := by
  refine pinLaw_serveNow (fun b {t} ht => ?_) hs h
  split
  · exact ht
  · split
    · exact ht
    · split
      · exact (t.samePins_writeRecord _ _).pinLaw ht
      · exact ht

theorem pinLaw_execLegLink (hs : PinLaw s) (h : execLegLink s = .next u) : PinLaw u := by
  refine pinLaw_serveNow (fun b {t} ht => ?_) hs h
  split
  · exact ht
  · split
    · exact ht
    · split
      · exact ht
      · exact (t.samePins_writeRecord _ _).pinLaw ht

theorem pinLaw_execLegRead (hs : PinLaw s) (h : execLegRead s = .next u) : PinLaw u :=
  pinLaw_readRow (fun b t => by split <;> rfl) hs h

/-! ## The slot table -/

theorem pinLaw_execSlotSetup (hs : PinLaw s) (h : execSlotSetup s = .next u) : PinLaw u := by
  refine pinLaw_serveNow (fun b {t} ht => pinLaw_withSlot ht fun i => ?_) hs h
  split
  · exact ht
  · split
    · split
      · exact ht
      · exact (State.samePins_updSlot (Slot.currentLeg_congr rfl)).pinLaw ht
    · exact ht

theorem pinLaw_execSlotArm (hs : PinLaw s) (h : execSlotArm s = .next u) : PinLaw u := by
  refine pinLaw_serveNow (fun b {t} ht => pinLaw_withSlot ht fun i => ?_) hs h
  split
  · next harm => exact State.pinLaw_arm ht harm
  · exact ht

theorem pinLaw_execSlotStart (hs : PinLaw s) (h : execSlotStart s = .next u) : PinLaw u := by
  refine pinLaw_serveNow (fun b {t} ht => pinLaw_withSlot ht fun i => ?_) hs h
  split
  · split
    · next hadd => exact (State.samePins_addCredits hadd).pinLaw ht
    · exact ht
  · exact ht

theorem pinLaw_execSlotHold (hs : PinLaw s) (h : execSlotHold s = .next u) : PinLaw u := by
  refine pinLaw_serveNow (fun b {t} ht => pinLaw_withSlot ht fun i => ?_) hs h
  split
  · next hhold => exact (State.samePins_hold? hhold).pinLaw ht
  · exact ht

/-- A request's owner that answers in a state with the pin law leaves one. -/
theorem pinLaw_of_answer (hs : PinLaw s) {r : Request} {rep : Reply}
    (h : (Host.Outcome.next (s.answer r rep) : Host.Outcome State Fault Refusal) = .next u) : PinLaw u := by
  cases h
  exact (s.samePins_answer r rep).pinLaw hs

theorem pinLaw_execSlotResume (hs : PinLaw s) (h : execSlotResume s = .next u) : PinLaw u := by
  refine pinLaw_serve (fun {r t u} ht hu => ?_) hs h
  have hwithdraw (i : SlotIx) : PinLaw (t.updSlot i fun x => { x with holdRequested := false }) :=
    (State.samePins_updSlot (Slot.currentLeg_congr rfl)).pinLaw ht
  split at hu
  · exact pinLaw_of_answer ht hu
  · split at hu
    · next hi =>
      refine pinLaw_of_answer ?_ hu
      exact ((State.samePins_setLegState (Slot.currentLeg_of_standing hi) .armed).trans (State.samePins_evaluate _ _)).pinLaw ht
    · split at hu
      · exact pinLaw_of_answer (hwithdraw _) hu
      · exact pinLaw_of_answer ht hu
    · split at hu
      · exact pinLaw_of_answer (hwithdraw _) hu
      · exact pinLaw_of_answer ht hu
    · next hi =>
      split at hu
      · next hres => exact pinLaw_of_answer (State.pinLaw_resumeFaulted ht (Slot.currentLeg_of_standing hi) hres) hu
      · exact pinLaw_of_answer ht hu
      · cases hu
    · exact pinLaw_of_answer ht hu

theorem pinLaw_execSlotQuery (hs : PinLaw s) (h : execSlotQuery s = .next u) : PinLaw u :=
  pinLaw_readRow (fun b t => by unfold withSlot; split <;> rfl) hs h

theorem pinLaw_execSlotCancel (hs : PinLaw s) (h : execSlotCancel s = .next u) : PinLaw u := by
  refine pinLaw_serve (fun {r t u} ht hu => ?_) hs h
  split at hu
  · exact pinLaw_of_answer ht hu
  · split at hu
    · exact pinLaw_of_answer ht hu
    · cases hu
      exact (t.samePins_holdEngine _ _).pinLaw ht
    · exact pinLaw_of_answer (State.pinLaw_cancelAtOnce ht _) hu

/-! ## The buffer, the link and the reports -/

theorem State.samePins_startBlock (s : State) (r : Request) (o : AskOrder) : s.SamePins (s.startBlock r o) :=
  .of_tables (by simp [State.startBlock]) (by simp [State.startBlock])

theorem pinLaw_execBufWrite (hs : PinLaw s) {o : AskOrder} (h : execBufWrite o s = .next u) : PinLaw u := by
  refine pinLaw_serve (fun {r t u} ht hu => ?_) hs h
  split at hu
  · cases hu
    exact (t.samePins_startBlock r o).pinLaw ht
  · exact pinLaw_of_answer ht hu

theorem pinLaw_execBufRead (hs : PinLaw s) {o : AskOrder} (h : execBufRead o s = .next u) : PinLaw u := by
  refine pinLaw_serve (fun {r t u} ht hu => ?_) hs h
  split at hu
  · split at hu
    · cases hu
      exact (t.samePins_startBlock r o).pinLaw ht
    · exact pinLaw_of_answer ht hu
  · exact pinLaw_of_answer ht hu

/-- A granted host block writes words and answers, and neither touches a leg or a slot (R146). -/
theorem State.samePins_runBlock (s : State) (r : Request) : s.SamePins (s.runBlock r) := by
  have hwrite : s.SamePins (s.runWriteBlock r) := by
    unfold State.runWriteBlock
    split
    · exact s.samePins_answer _ _
    · have hwords := State.writeWords_frame (blockWords r.body) s (blockStart r.body)
      exact (State.SamePins.of_tables (s := s) (by rw [hwords]) (by rw [hwords])).trans
        (State.samePins_answer _ _ _)
  have hread : s.SamePins (s.runReadBlock r) := by
    unfold State.runReadBlock
    dsimp only
    split
    · exact s.samePins_answer _ _
    · split
      · exact s.samePins_answer _ _
      · exact s.samePins_answer _ _
  unfold State.runBlock
  split
  · exact hwrite
  · exact hread

theorem pinLaw_execHostBlockGrant (hs : PinLaw s) (h : execHostBlockGrant s = .next u) : PinLaw u := by
  refine State.whenRunning_keeps (fun {t} ht => ?_) hs h
  split
  · split
    · exact ((t.samePins_runBlock _).trans (.of_tables rfl rfl)).pinLaw ht
    · exact ht
  · exact ht

theorem pinLaw_execFenceSet (hs : PinLaw s) (h : execFenceSet s = .next u) : PinLaw u := by
  refine pinLaw_serveNow (fun b {t} ht => ?_) hs h
  split
  · exact ht
  · split
    · exact ht
    · exact (t.samePins_takeFence _ _).pinLaw ht

theorem pinLaw_execFenceRead (hs : PinLaw s) (h : execFenceRead s = .next u) : PinLaw u :=
  pinLaw_readRow (fun b t => by split <;> rfl) hs h

theorem pinLaw_execHello (hs : PinLaw s) (h : execHello s = .next u) : PinLaw u :=
  pinLaw_readRow (fun _ _ => rfl) hs h

theorem pinLaw_execLinkStatus (hs : PinLaw s) (h : execLinkStatus s = .next u) : PinLaw u := by
  refine pinLaw_serveNow (fun b {t} ht => ?_) hs h
  dsimp only
  split
  · exact (t.onlyLink_count _).pinLaw ht
  · exact ht

theorem pinLaw_execEngineReset (hs : PinLaw s) (h : execEngineReset s = .next u) : PinLaw u := by
  refine pinLaw_serve (fun {r t u} ht hu => ?_) hs h
  split at hu <;> cases hu
  · exact (t.samePins_holdEngine _ _).pinLaw ht
  · exact t.pinLaw_engineReset r

theorem pinLaw_execReportAck (hs : PinLaw s) (h : execReportAck s = .next u) : PinLaw u := by
  refine pinLaw_serveNow (fun b {t} ht => ?_) hs h
  split
  · exact ht
  · exact (t.samePins_updReports _).pinLaw ht

theorem pinLaw_execReportReplay (hs : PinLaw s) (h : execReportReplay s = .next u) : PinLaw u := by
  refine pinLaw_serveNow (fun b {t} ht => ?_) hs h
  split
  · exact ht
  · exact (t.samePins_updReports _).pinLaw ht

theorem pinLaw_execReportGate (hs : PinLaw s) (h : execReportGate s = .next u) : PinLaw u :=
  pinLaw_serveNow (fun _ {t} ht => (t.samePins_updReports _).pinLaw ht) hs h

/-! ## The ports and the triggers -/

/-- A change of a port and its signal leave every slot in its leg (R132). -/
theorem State.samePins_updPort_signal (s : State) (p : PortIx) (f : Port → Port) (was : Bool) :
    s.SamePins ((s.updPort p f).signal p was) := (s.samePins_updPort p f).trans (State.samePins_signal _ _ _)

theorem pinLaw_execPortSetup (hs : PinLaw s) (h : execPortSetup s = .next u) : PinLaw u := by
  refine pinLaw_serveNow (fun b {t} ht => ?_) hs h
  split
  · exact ht
  · split
    · exact ht
    · split
      · split
        · exact ht
        · exact (t.samePins_updPort_signal _ _ _).pinLaw ht
      · exact ht

theorem pinLaw_execPortQuery (hs : PinLaw s) (h : execPortQuery s = .next u) : PinLaw u := by
  refine pinLaw_serveNow (fun b {t} ht => ?_) hs h
  split
  · exact ht
  · dsimp only
    split
    · exact (t.samePins_updPort _ _).pinLaw ht
    · exact ht

theorem State.samePins_arrive (s : State) (p : PortIx) (w : Word) : s.SamePins (s.arrive p w) := by
  unfold State.arrive
  split
  · split
    · exact s.samePins_updPort_signal _ _ _
    · unfold State.overruns
      dsimp only
      split
      · exact s.samePins_updPort _ _
      · exact (s.samePins_updPort _ _).trans (State.samePins_report _ _)
  · exact .refl s

theorem State.samePins_takeWord (s : State) (p : PortIx) : s.SamePins (s.takeWord p) := by
  unfold State.takeWord
  split
  · split
    · split
      · exact s.samePins_updPort_signal _ _ _
      · unfold State.underruns
        dsimp only
        split
        · exact s.samePins_updPort _ _
        · exact (s.samePins_updPort _ _).trans (State.samePins_report _ _)
    · exact s.samePins_updPort _ _
  · exact .refl s

theorem pinLaw_execTrigSet (hs : PinLaw s) (h : execTrigSet s = .next u) : PinLaw u := by
  refine pinLaw_serveNow (fun b {t} ht => ?_) hs h
  split
  · exact ht
  · split
    · exact ht
    · exact (t.samePins_setTrigger _ _).pinLaw ht

theorem pinLaw_execTrigRead (hs : PinLaw s) (h : execTrigRead s = .next u) : PinLaw u :=
  pinLaw_readRow (fun b t => by split <;> rfl) hs h

theorem pinLaw_execTriggerEvent (hs : PinLaw s) (h : execTriggerEvent s = .next u) : PinLaw u := by
  refine State.whenRunning_keeps (fun {t} ht => ?_) hs h
  split
  · exact ht
  · next e rest _ =>
    have htaken : t.SamePins { t with events := rest } := .of_tables rfl rfl
    exact State.pinLaw_scan (htaken.pinLaw ht) e

/-! ## The line, the transmitter and time -/

theorem State.samePins_choose (s : State) : s.SamePins s.choose := by
  unfold State.choose
  split
  · exact (s.onlyLink_updLink _).samePins
  · split
    · exact .of_tables rfl rfl
    · exact .refl s

theorem pinLaw_execFrameSent (hs : PinLaw s) (h : execFrameSent s = .next u) : PinLaw u := by
  refine State.whenRunning_keeps (fun {t} ht => ?_) hs h
  split
  · exact ((t.onlyLink_updLink _).samePins.trans (State.samePins_choose _)).pinLaw ht
  · exact ht

theorem pinLaw_execTransmitReply (hs : PinLaw s) (h : execTransmitReply s = .next u) : PinLaw u := by
  refine State.whenRunning_keeps (fun {t} ht => ?_) hs h
  split
  · exact (t.onlyLink_updLink _).pinLaw ht
  · exact ht

theorem pinLaw_execTransmitReport (hs : PinLaw s) (h : execTransmitReport s = .next u) : PinLaw u := by
  refine State.whenRunning_keeps (fun {t} ht => ?_) hs h
  split
  · exact ((t.samePins_updReports _).trans (State.onlyLink_updLink _ _).samePins).pinLaw ht
  · exact ht

/-- A row that the receiver alone answers changes the link alone. -/
theorem pinLaw_lineRow {f : State → State} (hf : ∀ t : State, t.OnlyLink (f t)) (hs : PinLaw s) (h : s.whenRunning f = .next u) :
    PinLaw u := State.whenRunning_keeps (fun {t} ht => (hf t).pinLaw ht) hs h

theorem pinLaw_execFrameReceived (hs : PinLaw s) {b : Byte} (h : execFrameReceived b s = .next u) : PinLaw u := by
  refine pinLaw_lineRow (fun t => ?_) hs h
  split
  · exact t.onlyLink_deliverUnlessBreak b
  · exact .refl t

theorem pinLaw_execLengthError (hs : PinLaw s) {b : Byte} (h : execLengthError b s = .next u) : PinLaw u := by
  refine pinLaw_lineRow (fun t => ?_) hs h
  split
  · exact t.onlyLink_deliverUnlessBreak b
  · exact .refl t

theorem pinLaw_execGapTimeout (hs : PinLaw s) (h : execGapTimeout s = .next u) : PinLaw u := by
  refine pinLaw_lineRow (fun t => ?_) hs h
  split
  · exact .refl t
  · exact (t.onlyLink_count _).trans (State.onlyLink_toHunt _)

theorem pinLaw_execLineBreak (hs : PinLaw s) (h : execLineBreak s = .next u) : PinLaw u := by
  refine pinLaw_lineRow (fun t => ?_) hs h
  split
  · exact .refl t
  · exact ((t.onlyLink_count _).trans (State.onlyLink_toHunt _)).trans (State.onlyLink_updLink _ _)

theorem pinLaw_execResetRelease (hs : PinLaw s) {straps : BitVec 2} (h : execResetRelease straps s = .next u) : PinLaw u := by
  unfold execResetRelease at h
  cases h
  split
  · exact (State.SamePins.of_tables (s := s) rfl rfl).pinLaw hs
  · exact hs

theorem pinLaw_execStartUpEnd (hs : PinLaw s) (h : execStartUpEnd s = .next u) : PinLaw u := by
  unfold execStartUpEnd at h
  cases h
  split
  · exact (State.SamePins.of_tables (s := s) rfl rfl).pinLaw hs
  · exact hs

theorem pinLaw_execUpset (hs : PinLaw s) {x : Upset} (h : execUpset x s = .next u) : PinLaw u := by
  unfold execUpset at h
  split at h <;> cases h
  · exact (State.SamePins.of_tables (s := s) rfl rfl).pinLaw hs
  · exact (State.SamePins.of_tables (s := s) rfl rfl).pinLaw hs

theorem State.samePins_paceExpires (s : State) (i : SlotIx) : s.SamePins (s.paceExpires i) := by
  unfold State.paceExpires
  split
  · next hi => exact (State.samePins_setLegState (Slot.currentLeg_of_standing hi) .armed).trans (State.samePins_evaluate _ _)
  · exact .refl s

/-- A microsecond leaves a PACED slot PACED in its leg (R39). -/
theorem Slot.currentLeg_tick (x : Slot) : x.tick.currentLeg = x.currentLeg := by
  unfold Slot.tick
  split
  · next hx => rw [Slot.currentLeg_of_standing hx, Slot.currentLeg_of_standing rfl]
  · rfl

theorem State.samePins_tick (s : State) : s.SamePins s.tick where
  pins _ := rfl
  loaded _ h := h
  current i := by simp [State.tick, State.slot, Slot.currentLeg_tick]

/-! ## Every command and every step -/

theorem pinLaw_exec (hs : PinLaw s) {c : Instr} (h : exec c s = .next u) : PinLaw u := by
  cases c with
  | powerReset =>
    cases h
    exact (State.SamePins.of_tables (s := State.reset) rfl rfl).pinLaw pinLaw_reset
  | resetRelease straps => exact pinLaw_execResetRelease hs h
  | startUpEnd => exact pinLaw_execStartUpEnd hs h
  | upset x => exact pinLaw_execUpset hs h
  | frameReceived b => exact pinLaw_execFrameReceived hs h
  | lengthError b => exact pinLaw_execLengthError hs h
  | byteDelivered b => exact pinLaw_lineRow (fun t => t.onlyLink_deliverUnlessBreak b) hs h
  | gapTimeout => exact pinLaw_execGapTimeout hs h
  | lineBreak => exact pinLaw_execLineBreak hs h
  | lineHighAfterBreak => exact pinLaw_lineRow (fun t => t.onlyLink_updLink _) hs h
  | transmitReply => exact pinLaw_execTransmitReply hs h
  | transmitReport => exact pinLaw_execTransmitReport hs h
  | frameSent => exact pinLaw_execFrameSent hs h
  | hello => exact pinLaw_execHello hs h
  | linkStatus => exact pinLaw_execLinkStatus hs h
  | engineReset => exact pinLaw_execEngineReset hs h
  | bufWrite o => exact pinLaw_execBufWrite hs h
  | bufRead o => exact pinLaw_execBufRead hs h
  | hostBlockGrant => exact pinLaw_execHostBlockGrant hs h
  | fenceSet => exact pinLaw_execFenceSet hs h
  | fenceRead => exact pinLaw_execFenceRead hs h
  | legLoad => exact pinLaw_execLegLoad hs h
  | legRead => exact pinLaw_execLegRead hs h
  | legLink => exact pinLaw_execLegLink hs h
  | slotSetup => exact pinLaw_execSlotSetup hs h
  | slotArm => exact pinLaw_execSlotArm hs h
  | slotStart => exact pinLaw_execSlotStart hs h
  | slotHold => exact pinLaw_execSlotHold hs h
  | slotResume => exact pinLaw_execSlotResume hs h
  | slotCancel => exact pinLaw_execSlotCancel hs h
  | slotQuery => exact pinLaw_execSlotQuery hs h
  | trigSet => exact pinLaw_execTrigSet hs h
  | trigRead => exact pinLaw_execTrigRead hs h
  | triggerEvent => exact pinLaw_execTriggerEvent hs h
  | portSetup => exact pinLaw_execPortSetup hs h
  | portQuery => exact pinLaw_execPortQuery hs h
  | wordArrival p w => exact State.whenRunning_keeps (fun {t} ht => (t.samePins_arrive p w).pinLaw ht) hs h
  | wordTake p => exact State.whenRunning_keeps (fun {t} ht => (t.samePins_takeWord p).pinLaw ht) hs h
  | reportAck => exact pinLaw_execReportAck hs h
  | reportReplay => exact pinLaw_execReportReplay hs h
  | reportGate => exact pinLaw_execReportGate hs h
  | element order => exact pinLaw_execElement hs h
  | paceExpiry i => exact State.whenRunning_keeps (fun {t} ht => (t.samePins_paceExpires i).pinLaw ht) hs h

theorem pinLaw_step (hs : PinLaw s) (h : step s = .next t) : PinLaw t := by
  unfold step at h
  split at h
  · cases h
    exact s.samePins_tick.pinLaw hs
  · next c rest _ =>
    have hqueue : s.SamePins { s with pending := rest } := .of_tables rfl rfl
    exact pinLaw_exec (hqueue.pinLaw hs) h

end Sys2Proof.Machine

namespace Sys2Proof

open Machine

/-- Settles O54: every step keeps the pin law, and 16 slots cannot pin a leg more than 16 times. -/
theorem pinLawKept : Obligations.PinLawKept := by
  intro s t hs h
  have ht : PinLaw t := pinLaw_step hs h
  exact ⟨ht, fun l => (ht l).1 ▸ t.users_le l⟩

end Sys2Proof
end

section
/-! # A request that is taken and answered

What a request row does where the engine may take its request and the body checks pass (R185–R187), and how the bytes of a body read
back as its fields (R196). -/

namespace Sys2Proof.Machine

variable {s u : State} {r : Request} {rest : List Request} {k : ReqKind}

/-! ## The engine -/

/-- The state a request's owner sees once the engine has taken the request. -/
def State.taken (s : State) (rest : List Request) : State := { s with link := { s.link with inbox := rest } }

theorem State.serve_of_takes (h : Takes s r rest) (hk : r.kind = k) (hb : bodyRefusal? k r.body = none)
    (owner : Request → State → Host.Outcome State Fault Refusal) : s.serve k owner = owner r (s.taken rest) := by
  obtain ⟨hphase, hexec, hreplies, hinbox⟩ := h
  have htake : s.takeRequest? k = some (r, s.taken rest) :=
    State.takeRequest?_eq_some.mpr ⟨hphase, hexec, hreplies, rest, hinbox, hk, rfl⟩
  simp only [State.serve, htake, hb]

/-- A request answered from a state that has the link as the take left it. -/
theorem State.answer_of_taken (hu : u.link = (s.taken rest).link) (rep : Reply) :
    u.answer r rep = { u with link := replied s.link r rest rep.status rep.data } := by
  simp only [State.answer, State.updLink, hu]
  rfl

/-- A request row that is taken, passes the body checks and is answered at once. -/
theorem State.serveNow_of_takes (h : Takes s r rest) (hk : r.kind = k) (hb : bodyRefusal? k r.body = none)
    {owner : List Byte → State → State × Reply} {rep : Reply} (howner : owner r.body (s.taken rest) = (u, rep))
    (hu : u.link = (s.taken rest).link) :
    s.serveNow k owner = .next { u with link := replied s.link r rest rep.status rep.data } := by
  rw [State.serveNow, State.serve_of_takes h hk hb]
  simp only [howner, State.answer_of_taken hu]

/-- A kind without a flags byte has no unused bit (R186). -/
theorem bodyRefusal?_of_no_flags {b : List Byte} (hflags : k.flagsByte? = none) (hlen : k.lengthOk b.length = true) :
    bodyRefusal? k b = none :=
  bodyRefusal?_eq_none.mpr ⟨hlen, by simp [ReqKind.unusedClear, hflags]⟩

/-! ## Bytes and fields -/

@[simp] theorem length_leBytes (n v : Nat) : (leBytes n v).length = n := by
  induction n generalizing v with
  | zero => rfl
  | succ n ih => simp [leBytes, ih]

theorem leNat_leBytes (n v : Nat) : leNat (leBytes n v) = v % 256 ^ n := by
  induction n generalizing v with
  | zero => simp [leBytes, leNat, Nat.mod_one]
  | succ n ih => simp [leBytes, leNat, ih, Nat.pow_succ', Nat.mod_mul]

theorem leNat_lt (bs : List Byte) : leNat bs < 256 ^ bs.length := by
  induction bs with
  | nil => simp [leNat]
  | cons b bs ih =>
    have hb := b.isLt
    simp only [leNat, List.length_cons, Nat.pow_succ]
    omega

theorem fieldAt_lt (b : List Byte) (off n : Nat) : fieldAt b off n < 256 ^ n :=
  (leNat_lt _).trans_le (Nat.pow_le_pow_right (by decide) (by simp))

/-- A field past the first part of a body is a field of the rest. -/
@[simp] theorem fieldAt_append_of_le {xs : List Byte} {off : Nat} (h : xs.length ≤ off) (ys : List Byte) (n : Nat) :
    fieldAt (xs ++ ys) off n = fieldAt ys (off - xs.length) n := by
  simp [fieldAt, List.drop_append, List.drop_eq_nil_of_le h]

@[simp] theorem byteAt_append_of_le {xs : List Byte} {off : Nat} (h : xs.length ≤ off) (ys : List Byte) :
    byteAt (xs ++ ys) off = byteAt ys (off - xs.length) := by
  simp [byteAt, List.getElem?_append_right h]

/-- A number in n bytes at the front of a body reads back. -/
@[simp] theorem fieldAt_leBytes_append (n v : Nat) (ys : List Byte) : fieldAt (leBytes n v ++ ys) 0 n = v % 256 ^ n := by
  rw [fieldAt, List.drop_zero, List.take_left' (length_leBytes n v), leNat_leBytes]

@[simp] theorem fieldAt_leBytes (n v : Nat) : fieldAt (leBytes n v) 0 n = v % 256 ^ n := by
  simpa using fieldAt_leBytes_append n v []

/-- A field of one byte is that byte. -/
theorem fieldAt_one (b : List Byte) (off : Nat) : fieldAt b off 1 = (byteAt b off).toNat := by
  unfold fieldAt byteAt
  rcases Nat.lt_or_ge off b.length with h | h
  · rw [List.drop_eq_getElem_cons h, List.take_succ_cons, List.take_zero]
    simp [leNat, h]
  · simp [List.drop_eq_nil_of_le h, leNat, h]

/-- A byte of a body is its field of one byte. -/
theorem byteAt_eq_ofNat_fieldAt (b : List Byte) (off : Nat) : byteAt b off = BitVec.ofNat 8 (fieldAt b off 1) := by
  simp [fieldAt_one]

@[simp] theorem fieldAt_cons_zero (b : Byte) (bs : List Byte) : fieldAt (b :: bs) 0 1 = b.toNat := by
  simp [fieldAt_one, byteAt]

@[simp] theorem fieldAt_cons_of_pos {off : Nat} (h : 0 < off) (b : Byte) (bs : List Byte) (n : Nat) :
    fieldAt (b :: bs) off n = fieldAt bs (off - 1) n := fieldAt_append_of_le (xs := [b]) h bs n

theorem leNat_leBytes_zero_drop_take (n off k : Nat) : leNat (((leBytes n 0).drop off).take k) = 0 := by
  have hzero : leBytes n 0 = List.replicate n 0 := by
    induction n with
    | zero => rfl
    | succ n ih => rw [leBytes, Nat.zero_div, ih]; rfl
  rw [hzero, List.drop_replicate, List.take_replicate]
  induction min k (n - off) with
  | zero => rfl
  | succ m ih => rw [List.replicate_succ, leNat, ih]; rfl

/-- A field inside the bytes that do not belong to an endpoint's kind is 0 (R4, R5). -/
@[simp] theorem fieldAt_zeros_append {n off k : Nat} (h : off + k ≤ n) (ys : List Byte) :
    fieldAt (leBytes n 0 ++ ys) off k = 0 := by
  rw [fieldAt, List.drop_append_of_le_length (by simp; omega), List.take_append_of_le_length (by simp; omega),
    leNat_leBytes_zero_drop_take]

theorem ofNat_fieldAt_eq_zero {w n : Nat} (h : 2 ^ w = 256 ^ n) (b : List Byte) (off : Nat) :
    BitVec.ofNat w (fieldAt b off n) = 0 ↔ fieldAt b off n = 0 := by
  rw [← BitVec.toNat_inj, BitVec.toNat_ofNat, h, Nat.mod_eq_of_lt (fieldAt_lt b off n)]
  simp

/-! ## Indices and NONE -/

theorem index?_of_lt {n v : Nat} (h : v < n) : index? n v = some ⟨v, h⟩ := dif_pos h

theorem index?_of_not_lt {n v : Nat} (h : ¬ v < n) : index? n v = none := dif_neg h

theorem index?_eq_some {n v : Nat} {i : Fin n} : index? n v = some i ↔ v = i.val := by
  unfold index?
  split
  · simp [Fin.ext_iff]
  · next h => simp only [reduceCtorEq, false_iff]; omega

/-- A leg index or NONE: 0–511 or FFFFh (R196). -/
theorem legOrNone?_of_mem {v : Nat} (h : v < 512 ∨ v = 65535) :
    legOrNone? v = some (if hv : v < 512 then some ⟨v, hv⟩ else none) := by
  unfold legOrNone?
  split
  · next hv => rw [dif_neg (by omega)]
  · next hv =>
    have hlt : v < 512 := by omega
    rw [dif_pos hlt, index?_of_lt hlt, Option.map_some]

theorem legOrNone?_eq_none {v : Nat} (h : ¬ (v < 512 ∨ v = 65535)) : legOrNone? v = none := by
  unfold legOrNone?
  rw [if_neg (by omega), index?_of_not_lt (by omega), Option.map_none]

end Sys2Proof.Machine
end

section
/-! # LEG_READ and LEG_LINK (O22, O23) -/

namespace Sys2Proof.Machine

/-- The reply fields of a FREE entry (R17). -/
theorem LegEntry.bytes_free {e : LegEntry} (h : e.record = none) : e.bytes = [0x00] ++ leBytes 1 e.pins := by
  simp only [LegEntry.bytes, h]
  rfl

/-- The reply fields of a LOADED entry (R17). -/
theorem LegEntry.bytes_loaded {e : LegEntry} {rec : LegRecord} (h : e.record = some rec) :
    e.bytes = [0x01] ++ leBytes 1 e.pins ++ rec.bytes := by
  simp only [LegEntry.bytes, h]
  rfl

end Sys2Proof.Machine

namespace Sys2Proof

open Machine

/-- Settles O22: the reply is the entry's status, its pins and its record, or RANGE. -/
theorem legReadReturnsTheEntry : Obligations.LegReadReturnsTheEntry := by
  intro s r rest n htakes hkind hn hbody
  have hcheck : bodyRefusal? .legRead r.body = none := bodyRefusal?_of_no_flags rfl (by simp [hbody, ReqKind.lengthOk])
  have hindex : fieldAt r.body 0 2 = n := by rw [hbody, fieldAt_leBytes]; exact Nat.mod_eq_of_lt hn
  show execLegRead s = _
  unfold execLegRead
  split
  · next hlt =>
    rw [State.serveNow_of_takes (u := s.taken rest) (rep := Reply.okWith (s.leg ⟨n, hlt⟩).bytes) htakes hkind hcheck
      (by simp only [hindex, index?_of_lt hlt]; rfl) rfl]
    refine congrArg (fun data => Host.Outcome.next { s with link := replied s.link r rest .ok data }) ?_
    split
    · next hfree => exact LegEntry.bytes_free hfree
    · next rec hrec =>
      refine (LegEntry.bytes_loaded hrec).trans ?_
      rw [LegRecord.bytes]
      cases rec.next <;> cases rec.expect <;> rfl
  · next hlt =>
    exact State.serveNow_of_takes (u := s.taken rest) (rep := Reply.bare .range) htakes hkind hcheck
      (by simp only [hindex, index?_of_not_lt hlt]) rfl

/-- Settles O23: NEXT alone is replaced, after the index, the new NEXT and the entry's status have been checked in that order. -/
theorem legLinkReplacesNextAlone : Obligations.LegLinkReplacesNextAlone := by
  intro s r rest n m htakes hkind hn hm hbody
  have hcheck : bodyRefusal? .legLink r.body = none := bodyRefusal?_of_no_flags rfl (by simp [hbody, ReqKind.lengthOk])
  have hindex : fieldAt r.body 0 2 = n := by rw [hbody, fieldAt_leBytes_append]; exact Nat.mod_eq_of_lt hn
  have hnext : fieldAt r.body 2 2 = m := by
    rw [hbody, fieldAt_append_of_le (by simp), length_leBytes, fieldAt_leBytes]
    exact Nat.mod_eq_of_lt hm
  show execLegLink s = _
  unfold execLegLink
  split
  · next hlt =>
    split
    · next hmem =>
      split
      · next hfree =>
        have hfree : ((s.taken rest).leg ⟨n, hlt⟩).record = none := hfree
        exact State.serveNow_of_takes (u := s.taken rest) (rep := Reply.bare .state) htakes hkind hcheck
          (by simp only [hindex, hnext, index?_of_lt hlt, legOrNone?_of_mem hmem, hfree]) rfl
      · next rec hrec =>
        have hrec : ((s.taken rest).leg ⟨n, hlt⟩).record = some rec := hrec
        exact State.serveNow_of_takes
          (u := (s.taken rest).updLeg ⟨n, hlt⟩ fun e =>
            { e with record := some { rec with next := if hm : m < 512 then some ⟨m, hm⟩ else none } })
          (rep := Reply.okWith (leBytes 1 (s.users ⟨n, hlt⟩))) htakes hkind hcheck
          (by simp only [hindex, hnext, index?_of_lt hlt, legOrNone?_of_mem hmem, hrec]; rfl) rfl
    · next hmem =>
      exact State.serveNow_of_takes (u := s.taken rest) (rep := Reply.bare .field) htakes hkind hcheck
        (by simp only [hindex, hnext, index?_of_lt hlt, legOrNone?_eq_none hmem]) rfl
  · next hlt =>
    exact State.serveNow_of_takes (u := s.taken rest) (rep := Reply.bare .range) htakes hkind hcheck
      (by simp only [hindex, index?_of_not_lt hlt]) rfl

end Sys2Proof
end

section
/-! # Address movement and the digest (O50) -/

namespace Sys2Proof

open Machine

/-! ## Address movement -/

/-- An offset below 2^k stays inside the aligned window of 2^k words that holds an address (R10). -/
theorem window_lt {a k x : Nat} (ha : a < 65536) (hk : k ≤ 16) (hx : x < 2 ^ k) : a / 2 ^ k * 2 ^ k + x < 65536 := by
  have hsplit : 2 ^ (16 - k) * 2 ^ k = 65536 := by rw [← Nat.pow_add, Nat.sub_add_cancel hk]
  have hwindow : a / 2 ^ k < 2 ^ (16 - k) := Nat.div_lt_of_lt_mul (by rwa [Nat.mul_comm, hsplit])
  calc a / 2 ^ k * 2 ^ k + x < (a / 2 ^ k + 1) * 2 ^ k := by rw [Nat.add_mul]; omega
    _ ≤ 2 ^ (16 - k) * 2 ^ k := Nat.mul_le_mul_right _ hwindow
    _ = 65536 := hsplit

/-- With RING 0 an address moves modulo 65536 (R9). -/
theorem toNat_moved_of_no_ring {p : Path} (h : p.ring.val = 0) (a : Addr) (n : Int) :
    ((p.moved a n).toNat : Int) = ((a.toNat : Int) + n) % 65536 := by
  rw [Path.moved, if_pos h, BitVec.toNat_ofInt]
  omega

/-- With RING k the window of 2^k words stays, and the offset in it moves modulo 2^k (R10). -/
theorem toNat_moved_of_ring {p : Path} (h : p.ring.val ≠ 0) (a : Addr) (n : Int) :
    (p.moved a n).toNat =
      a.toNat / 2 ^ p.ring.val * 2 ^ p.ring.val
        + (((a.toNat % 2 ^ p.ring.val : Nat) + n) % ((2 ^ p.ring.val : Nat) : Int)).toNat := by
  have hpos : (0 : Int) < ((2 ^ p.ring.val : Nat) : Int) := by exact_mod_cast Nat.two_pow_pos p.ring.val
  have hoffset := Int.emod_lt_of_pos (((a.toNat % 2 ^ p.ring.val : Nat) : Int) + n) hpos
  rw [Path.moved, if_neg h, BitVec.toNat_ofNat]
  exact Nat.mod_eq_of_lt (window_lt a.isLt (Nat.le_of_lt_succ p.ring.isLt) (by omega))

theorem moved_in_ring {p : Path} (h : p.ring.val ≠ 0) (a : Addr) (n : Int) :
    (p.moved a n).toNat / 2 ^ p.ring.val = a.toNat / 2 ^ p.ring.val ∧
      (((p.moved a n).toNat % 2 ^ p.ring.val : Nat) : Int) =
        (((a.toNat % 2 ^ p.ring.val : Nat) : Int) + n) % ((2 ^ p.ring.val : Nat) : Int) := by
  have hpos : (0 : Int) < ((2 ^ p.ring.val : Nat) : Int) := by exact_mod_cast Nat.two_pow_pos p.ring.val
  have hlow := Int.emod_nonneg (((a.toNat % 2 ^ p.ring.val : Nat) : Int) + n) hpos.ne'
  have hhigh := Int.emod_lt_of_pos (((a.toNat % 2 ^ p.ring.val : Nat) : Int) + n) hpos
  have hlt : (((a.toNat % 2 ^ p.ring.val : Nat) + n) % ((2 ^ p.ring.val : Nat) : Int)).toNat < 2 ^ p.ring.val := by omega
  rw [toNat_moved_of_ring h, Nat.mul_comm]
  constructor
  · rw [Nat.mul_add_div (Nat.two_pow_pos _), Nat.div_eq_of_lt hlt, Nat.add_zero]
  · rw [Nat.mul_add_mod, Nat.mod_eq_of_lt hlt, Int.toNat_of_nonneg hlow]

/-- A step and a skip move the address of a BUFFER source by its signed STEP and SKIP (R9, R11). -/
theorem src_moves_of_buffer {r : LegRecord} {p : Path} (h : r.src = .buffer p) (a : Addr) :
    r.srcStepped a = p.moved a p.step.toInt ∧ r.srcSkipped a = p.moved a p.skip.toInt := by
  simp only [LegRecord.srcStepped, LegRecord.srcSkipped, h, and_self]

theorem dst_moves_of_buffer {r : LegRecord} {p : Path} (h : r.dst = .buffer p) (a : Addr) :
    r.dstStepped a = p.moved a p.step.toInt ∧ r.dstSkipped a = p.moved a p.skip.toInt := by
  simp only [LegRecord.dstStepped, LegRecord.dstSkipped, h, and_self]

/-- The address of an endpoint that is no BUFFER does not move (R9, R11). -/
theorem src_stays {r : LegRecord} (h : ∀ p, r.src ≠ .buffer p) (a : Addr) : r.srcStepped a = a ∧ r.srcSkipped a = a := by
  cases hsrc : r.src with
  | buffer p => exact absurd hsrc (h p)
  | port _ | const _ => simp only [LegRecord.srcStepped, LegRecord.srcSkipped, hsrc, and_self]

theorem dst_stays {r : LegRecord} (h : ∀ p, r.dst ≠ .buffer p) (a : Addr) : r.dstStepped a = a ∧ r.dstSkipped a = a := by
  cases hdst : r.dst with
  | buffer p => exact absurd hdst (h p)
  | port _ => simp only [LegRecord.dstStepped, LegRecord.dstSkipped, hdst, and_self]

/-! ## The digest -/

/-- The byte of a word that starts at bit n. -/
theorem extract_byte (w : Word) (n : Nat) : w.extractLsb' n 8 = (w >>> n).setWidth 8 := by
  apply BitVec.eq_of_toNat_eq
  simp

/-- A word folds in by its four bytes, from the least significant up (R70). -/
theorem digestWord_eq_foldl (acc w : Word) :
    digestWord acc w = ([0, 1, 2, 3] : List Nat).foldl (fun x k => digestByte x ((w >>> (8 * k)).setWidth 8)) acc := by
  simp only [digestWord, extract_byte, List.foldl_cons, List.foldl_nil]

/-- Settles O50: the address rules by the window of a ring, the digest by its definition, and R70's worked values by evaluation. -/
theorem addressesMoveAndDigestFolds : Obligations.AddressesMoveAndDigestFolds :=
  ⟨fun _ a n => ⟨fun h => toNat_moved_of_no_ring h a n, fun h => moved_in_ring h a n⟩,
    fun _ a => ⟨fun _ h => src_moves_of_buffer h a, fun _ h => dst_moves_of_buffer h a, fun h => src_stays h a,
      fun h => dst_stays h a⟩,
    digestWord_eq_foldl, fun _ _ => rfl, fun _ => rfl, by decide +kernel, by decide +kernel, by decide⟩

end Sys2Proof
end

section
/-! # The bytes of a leg record and its check (O21)

A legal record's bytes pass the record check of R15 and give the record back, and whatever the check passes has every field in its
set. -/

namespace Sys2Proof.Machine

/-! ## A record reads back from its bytes -/

@[simp] theorem Source.length_bytes (x : Source) : x.bytes.length = 12 := by
  cases x <;> simp [Source.bytes, wordBytes]

@[simp] theorem Dest.length_bytes (x : Dest) : x.bytes.length = 8 := by
  cases x <;> simp [Dest.bytes]

@[simp] theorem length_legOrNoneBytes (x : Option LegIx) : (legOrNoneBytes x).length = 2 := by
  cases x <;> simp [legOrNoneBytes]

/-- The address fields of a BUFFER endpoint, each cut to the bytes that carry it, give the endpoint back (R3, R198). -/
theorem path?_of_fields (p : Path) :
    path? (p.addr.toNat % 65536) p.step (p.ring.val % 256) (BitVec.ofNat 16 (p.skip.toNat % 65536)) = some p := by
  have hring : p.ring.val % 256 = p.ring.val := Nat.mod_eq_of_lt (by omega)
  have haddr : p.addr.toNat % 65536 = p.addr.toNat := Nat.mod_eq_of_lt p.addr.isLt
  have hskip : p.skip.toNat % 65536 = p.skip.toNat := Nat.mod_eq_of_lt p.skip.isLt
  simp [path?, hring, haddr, hskip, index?_of_lt p.ring.isLt]

/-- The twelve bytes of a source, at the front of a record, give the source back (R4, R198). -/
theorem RawLeg.source?_ofBytes (x : Source) (ys : List Byte) : (RawLeg.ofBytes (x.bytes ++ ys)).source? = some x := by
  cases x with
  | buffer p =>
    simp [Source.bytes, RawLeg.source?, RawLeg.ofBytes, wordAt, byteAt_eq_ofNat_fieldAt, path?_of_fields]
  | port p =>
    have hport : p.val % 256 = p.val := Nat.mod_eq_of_lt (by omega)
    simp [Source.bytes, RawLeg.source?, RawLeg.ofBytes, wordAt, byteAt_eq_ofNat_fieldAt, hport, index?_of_lt p.isLt]
  | const v =>
    have hvalue : v.toNat % 4294967296 = v.toNat := Nat.mod_eq_of_lt v.isLt
    simp [Source.bytes, RawLeg.source?, RawLeg.ofBytes, wordAt, wordBytes, byteAt_eq_ofNat_fieldAt, hvalue]

/-- The eight bytes of a destination, after the twelve of a source, give the destination back (R5, R198). -/
theorem RawLeg.dest?_ofBytes (x : Source) (y : Dest) (zs : List Byte) :
    (RawLeg.ofBytes (x.bytes ++ (y.bytes ++ zs))).dest? = some y := by
  cases y with
  | buffer p =>
    simp [Dest.bytes, RawLeg.dest?, RawLeg.ofBytes, byteAt_eq_ofNat_fieldAt, path?_of_fields]
  | port p =>
    have hport : p.val % 256 = p.val := Nat.mod_eq_of_lt (by omega)
    simp [Dest.bytes, RawLeg.dest?, RawLeg.ofBytes, byteAt_eq_ofNat_fieldAt, hport, index?_of_lt p.isLt]

/-- NEXT reads back from its two bytes (R196). -/
theorem legOrNone?_fieldAt_legOrNoneBytes (x : Option LegIx) (ys : List Byte) :
    legOrNone? (fieldAt (legOrNoneBytes x ++ ys) 0 2) = some x := by
  cases x with
  | none => rw [legOrNoneBytes, fieldAt_leBytes_append]; rfl
  | some l =>
    have hl := l.isLt
    rw [legOrNoneBytes, fieldAt_leBytes_append, Nat.mod_eq_of_lt (by omega), legOrNone?_of_mem (.inl hl), dif_pos hl]

/-- What the check of R15 asks of a record, with the bound that COUNT's two bytes set (R3, R5, R15, R198). -/
structure LegRecord.Legal (l : LegRecord) : Prop where
  burst_pos : 1 ≤ l.burst
  burst_le : l.burst ≤ 256
  count_pos : 1 ≤ l.count
  count_le : l.count ≤ 65535
  mark_lt : l.mark < l.count
  endpoints : portToPort l.src l.dst = false
  expect : l.expect.isSome = true → l.digest = true

/-- The fields of a legal record's bytes after its two endpoints. -/
theorem RawLeg.ofBytes_bytes {l : LegRecord} (h : l.Legal) :
    let raw := RawLeg.ofBytes l.bytes
    raw.burst = l.burst ∧ raw.count = l.count ∧ raw.mark = l.mark ∧ legOrNone? raw.next = some l.next ∧
      raw.flags = BitVec.ofNat 8 (flagBit 0 l.endReport + flagBit 1 l.endHold + flagBit 2 l.digest) ∧
      raw.expect = l.expect := by
  have hb := h.burst_le
  have hc := h.count_le
  have hm := h.mark_lt
  have hexpect : (if l.bytes.length = 33 then some (wordAt l.bytes 29) else none) = l.expect := by
    cases he : l.expect with
    | none => simp [LegRecord.bytes, he, optWordBytes]
    | some w =>
      have hw : w.toNat % 4294967296 = w.toNat := Nat.mod_eq_of_lt w.isLt
      simp [LegRecord.bytes, he, optWordBytes, wordBytes, wordAt, hw]
  refine ⟨?_, ?_, ?_, ?_, ?_, hexpect⟩
  · simpa [RawLeg.ofBytes, LegRecord.bytes] using (by omega : l.burst < 65536)
  · simpa [RawLeg.ofBytes, LegRecord.bytes] using (by omega : l.count < 65536)
  · simpa [RawLeg.ofBytes, LegRecord.bytes] using (by omega : l.mark < 65536)
  · simp [RawLeg.ofBytes, LegRecord.bytes, legOrNone?_fieldAt_legOrNoneBytes]
  · simp [RawLeg.ofBytes, LegRecord.bytes, byteAt_eq_ofNat_fieldAt]
    exact BitVec.eq_of_toNat_eq (by simp)

/-- The three named flags of a record read back from their byte (R198). -/
theorem getLsbD_flags (a b c : Bool) :
    let flags := BitVec.ofNat 8 (flagBit 0 a + flagBit 1 b + flagBit 2 c)
    flags.getLsbD 0 = a ∧ flags.getLsbD 1 = b ∧ flags.getLsbD 2 = c ∧ flags.toNat < 8 := by
  revert a b c
  decide

/-- A legal record passes the record check as itself: no field is lost or changed on the way in (R15, R198). -/
theorem RawLeg.checked?_ofBytes_bytes {l : LegRecord} (h : l.Legal) : (RawLeg.ofBytes l.bytes).checked? = some l := by
  obtain ⟨hburst, hcount, hmark, hnext, hflags, hexpect⟩ := RawLeg.ofBytes_bytes h
  obtain ⟨hreport, hhold, hdigest, -⟩ := getLsbD_flags l.endReport l.endHold l.digest
  have hsrc : (RawLeg.ofBytes l.bytes).source? = some l.src := by
    simp only [LegRecord.bytes, List.append_assoc, RawLeg.source?_ofBytes]
  have hdst : (RawLeg.ofBytes l.bytes).dest? = some l.dst := by
    simp only [LegRecord.bytes, List.append_assoc, RawLeg.dest?_ofBytes]
  simp only [RawLeg.checked?, hsrc, hdst, hnext, hburst, hcount, hmark, hflags, hexpect, hreport, hhold, hdigest]
  rw [if_pos ⟨h.burst_pos, h.burst_le, h.count_pos, h.mark_lt, h.endpoints, h.expect⟩]

/-- The length of a record's bytes and their unused flags are as the body checks ask (R186, R198). -/
theorem LegRecord.bytes_wellFormed (rec : LegRecord) :
    (rec.bytes.length = 29 ∨ rec.bytes.length = 33) ∧ (byteAt rec.bytes 28).toNat < 8 := by
  constructor
  · cases h : rec.expect with
    | none => simp [LegRecord.bytes, optWordBytes, h]
    | some w => simp [LegRecord.bytes, optWordBytes, wordBytes, h]
  · obtain ⟨-, -, -, hflags⟩ := getLsbD_flags rec.endReport rec.endHold rec.digest
    simpa [LegRecord.bytes, byteAt_eq_ofNat_fieldAt] using hflags

/-! ## What the record check passes -/

/-- A source the check passes: of a known kind, in range, with 0 in every field that does not belong to the kind (R4, R15). -/
theorem RawLeg.source?_eq_some {r : RawLeg} {x : Source} (h : r.source? = some x) :
    (r.srcKind = 0 ∧ r.srcPort = 0 ∧ r.srcValue = 0 ∧ r.srcRing ≤ 16) ∨
    ((r.srcAddr = 0 ∧ r.srcStep = 0 ∧ r.srcRing = 0 ∧ r.srcSkip = 0) ∧
      ((r.srcKind = 1 ∧ r.srcValue = 0 ∧ r.srcPort ≤ 7 ∧ ∃ p, x = .port p) ∨ (r.srcKind = 2 ∧ r.srcPort = 0))) := by
  unfold RawLeg.source? at h
  split at h
  · next hkind =>
    split at h
    · next hzero =>
      simp only [path?, Option.map_map, Option.map_eq_some_iff] at h
      obtain ⟨k, hk, -⟩ := h
      rw [index?_eq_some] at hk
      exact .inl ⟨hkind, hzero.1, hzero.2, by omega⟩
    · cases h
  · split at h
    · next hzero =>
      refine .inr ⟨hzero, ?_⟩
      split at h
      · next hkind =>
        split at h
        · next hvalue =>
          simp only [Option.map_eq_some_iff, index?_eq_some] at h
          obtain ⟨p, hp, rfl⟩ := h
          exact .inl ⟨hkind, hvalue, by omega, p, rfl⟩
        · cases h
      · split at h
        · next hkind =>
          split at h
          · next hport => exact .inr ⟨hkind, hport⟩
          · cases h
        · cases h
    · cases h

/-- A destination the check passes (R5, R15). -/
theorem RawLeg.dest?_eq_some {r : RawLeg} {x : Dest} (h : r.dest? = some x) :
    (r.dstKind = 0 ∧ r.dstPort = 0 ∧ r.dstRing ≤ 16) ∨
    (r.dstKind = 1 ∧ r.dstAddr = 0 ∧ r.dstStep = 0 ∧ r.dstRing = 0 ∧ r.dstSkip = 0 ∧ r.dstPort ≤ 7 ∧ ∃ p, x = .port p) := by
  unfold RawLeg.dest? at h
  split at h
  · next hkind =>
    split at h
    · next hport =>
      simp only [path?, Option.map_map, Option.map_eq_some_iff] at h
      obtain ⟨k, hk, -⟩ := h
      rw [index?_eq_some] at hk
      exact .inl ⟨hkind, hport, by omega⟩
    · cases h
  · split at h
    · next hzero =>
      obtain ⟨hkind, haddr, hstep, hring, hskip⟩ := hzero
      simp only [Option.map_eq_some_iff, index?_eq_some] at h
      obtain ⟨p, hp, rfl⟩ := h
      exact .inr ⟨hkind, haddr, hstep, hring, hskip, by omega, p, rfl⟩
    · cases h

theorem mem_of_legOrNone?_eq_some {v : Nat} {x : Option LegIx} (h : legOrNone? v = some x) : v < 512 ∨ v = 65535 := by
  by_contra hv
  rw [legOrNone?_eq_none hv] at h
  cases h

/-- What a record that the check passes meets, field by field (R15). -/
theorem RawLeg.checked?_eq_some {r : RawLeg} {l : LegRecord} (h : r.checked? = some l) :
    ∃ x y, r.source? = some x ∧ r.dest? = some y ∧ (r.next < 512 ∨ r.next = 65535) ∧ 1 ≤ r.burst ∧ r.burst ≤ 256 ∧
      1 ≤ r.count ∧ r.mark < r.count ∧ portToPort x y = false ∧ (r.expect.isSome = true → r.flags.getLsbD 2 = true) := by
  unfold RawLeg.checked? at h
  split at h
  · next x y n hx hy hn =>
    split at h
    · next hlegal => exact ⟨x, y, hx, hy, mem_of_legOrNone?_eq_some hn, hlegal⟩
    · cases h
  · cases h

/-- The two endpoints' bytes of a record that the check passes (R4, R5, R15). -/
theorem endpoints_of_checked? {b : List Byte} {l : LegRecord} (h : (RawLeg.ofBytes b).checked? = some l) :
    ((fieldAt b 0 1 = 0 ∧ fieldAt b 1 1 = 0 ∧ fieldAt b 4 4 = 0 ∧ fieldAt b 9 1 ≤ 16) ∨
      ((fieldAt b 2 2 = 0 ∧ fieldAt b 8 1 = 0 ∧ fieldAt b 9 1 = 0 ∧ fieldAt b 10 2 = 0) ∧
        ((fieldAt b 0 1 = 1 ∧ fieldAt b 4 4 = 0 ∧ fieldAt b 1 1 ≤ 7) ∨ (fieldAt b 0 1 = 2 ∧ fieldAt b 1 1 = 0)))) ∧
    ((fieldAt b 12 1 = 0 ∧ fieldAt b 13 1 = 0 ∧ fieldAt b 17 1 ≤ 16) ∨
      (fieldAt b 12 1 = 1 ∧ fieldAt b 14 2 = 0 ∧ fieldAt b 16 1 = 0 ∧ fieldAt b 17 1 = 0 ∧ fieldAt b 18 2 = 0 ∧
        fieldAt b 13 1 ≤ 7)) ∧
    ¬ (fieldAt b 0 1 = 1 ∧ fieldAt b 12 1 = 1) := by
  obtain ⟨x, y, hx, hy, -, -, -, -, -, hports, -⟩ := RawLeg.checked?_eq_some h
  have hsrc := RawLeg.source?_eq_some hx
  have hdst := RawLeg.dest?_eq_some hy
  simp only [RawLeg.ofBytes, wordAt, byteAt_eq_ofNat_fieldAt, ofNat_fieldAt_eq_zero (w := 8) (n := 1) rfl,
    ofNat_fieldAt_eq_zero (w := 16) (n := 2) rfl, ofNat_fieldAt_eq_zero (w := 32) (n := 4) rfl] at hsrc hdst
  refine ⟨?_, ?_, ?_⟩
  · rcases hsrc with h0 | ⟨hzero, ⟨hk, hv, hp, -⟩ | h2⟩
    · exact .inl h0
    · exact .inr ⟨hzero, .inl ⟨hk, hv, hp⟩⟩
    · exact .inr ⟨hzero, .inr h2⟩
  · rcases hdst with h0 | ⟨hk, ha, hs, hr, hsk, hp, -⟩
    · exact .inl h0
    · exact .inr ⟨hk, ha, hs, hr, hsk, hp⟩
  · rintro ⟨hs1, hd1⟩
    rcases hsrc with ⟨h0, -⟩ | ⟨-, ⟨-, -, -, p, rfl⟩ | ⟨h2, -⟩⟩
    · omega
    · rcases hdst with ⟨h0, -⟩ | ⟨-, -, -, -, -, -, q, rfl⟩
      · omega
      · cases hports
    · omega

/-- The bytes after the endpoints of a record that the check passes (R15). -/
theorem tail_of_checked? {b : List Byte} {l : LegRecord} (h : (RawLeg.ofBytes b).checked? = some l) :
    (1 ≤ fieldAt b 20 2 ∧ fieldAt b 20 2 ≤ 256) ∧ (1 ≤ fieldAt b 22 2 ∧ fieldAt b 24 2 < fieldAt b 22 2) ∧
      (fieldAt b 26 2 < 512 ∨ fieldAt b 26 2 = 65535) ∧ (b.length = 33 → (byteAt b 28).getLsbD 2 = true) := by
  obtain ⟨x, y, -, -, hnext, hb1, hb2, hc, hm, -, hexpect⟩ := RawLeg.checked?_eq_some h
  exact ⟨⟨hb1, hb2⟩, ⟨hc, hm⟩, hnext, fun hlen => hexpect (by simp [RawLeg.ofBytes, hlen])⟩

/-! ## LEG_LOAD -/

/-- The body checks pass a LEG-LOAD of 29 or 33 record bytes whose five unused flags are 0 (R186, R198). -/
theorem bodyRefusal?_legLoad {n : Nat} {bytes : List Byte} (hlen : bytes.length = 29 ∨ bytes.length = 33)
    (hflags : (byteAt bytes 28).toNat < 8) : bodyRefusal? .legLoad (leBytes 2 n ++ bytes) = none := by
  refine bodyRefusal?_eq_none.mpr ⟨?_, ?_⟩
  · rcases hlen with h | h <;> simp [ReqKind.lengthOk, h]
  · simpa [ReqKind.unusedClear, ReqKind.flagsByte?] using hflags

/-- What a taken LEG-LOAD of a record's bytes comes to: the index, the record check, the pins (R14, R15). -/
theorem execLegLoad_of_takes {s : State} {r : Request} {rest : List Request} {n : Nat} {bytes : List Byte}
    (htakes : Takes s r rest) (hkind : r.kind = .legLoad) (hn : n < 65536) (hlen : bytes.length = 29 ∨ bytes.length = 33)
    (hflags : (byteAt bytes 28).toNat < 8) (hbody : r.body = leBytes 2 n ++ bytes) :
    execLegLoad s =
      match index? 512 n with
      | none => .next { s with link := replied s.link r rest .range [] }
      | some l =>
        match (RawLeg.ofBytes bytes).checked? with
        | none => .next { s with link := replied s.link r rest .field [] }
        | some rec =>
          if (s.leg l).pins = 0 then
            .next { s with
              link := replied s.link r rest .ok []
              legs := s.legs.set l { record := some rec, pins := (s.leg l).pins } }
          else .next { s with link := replied s.link r rest .inUse [] } := by
  have hcheck : bodyRefusal? .legLoad r.body = none := hbody ▸ bodyRefusal?_legLoad hlen hflags
  have hindex : fieldAt r.body 0 2 = n := by rw [hbody, fieldAt_leBytes_append]; exact Nat.mod_eq_of_lt hn
  have hbytes : r.body.drop 2 = bytes := by rw [hbody, List.drop_left' (length_leBytes 2 n)]
  unfold execLegLoad
  split
  · next hl =>
    exact State.serveNow_of_takes (u := s.taken rest) (rep := Reply.bare .range) htakes hkind hcheck
      (by simp only [hindex, hl]) rfl
  · next l hl =>
    split
    · next hrec =>
      exact State.serveNow_of_takes (u := s.taken rest) (rep := Reply.bare .field) htakes hkind hcheck
        (by simp only [hindex, hl, hbytes, hrec]) rfl
    · next rec hrec =>
      split
      · next hpins =>
        have hpins : ((s.taken rest).leg l).pins = 0 := hpins
        exact State.serveNow_of_takes (u := (s.taken rest).updLeg l fun e => { e with record := some rec })
          (rep := Reply.bare .ok) htakes hkind hcheck (by simp only [hindex, hl, hbytes, hrec, hpins, if_true]) rfl
      · next hpins =>
        have hpins : ¬ ((s.taken rest).leg l).pins = 0 := hpins
        exact State.serveNow_of_takes (u := s.taken rest) (rep := Reply.bare .inUse) htakes hkind hcheck
          (by simp only [hindex, hl, hbytes, hrec, hpins, if_false]) rfl

end Sys2Proof.Machine

namespace Sys2Proof

open Machine

/-- Settles O21: a legal record's bytes pass the check as that record, and bytes with any field outside its set do not pass. -/
theorem legLoadStoresALegalRecord : Obligations.LegLoadStoresALegalRecord := by
  refine ⟨fun s r rest l rec htakes hkind hbody hb1 hb2 hc1 hc2 hm hports hexpect => ?_,
    fun s r rest n bytes htakes hkind hn hlen hflags hbody => ⟨fun hge => ?_, fun hlt hbad => ?_⟩⟩
  · have hlegal : rec.Legal := ⟨hb1, hb2, hc1, hc2, hm, hports, hexpect⟩
    obtain ⟨hlen, hflags⟩ := LegRecord.bytes_wellFormed rec
    refine (execLegLoad_of_takes htakes hkind (by omega) hlen hflags hbody).trans ?_
    simp only [index?_of_lt l.isLt, RawLeg.checked?_ofBytes_bytes hlegal]
  · refine (execLegLoad_of_takes htakes hkind hn hlen hflags hbody).trans ?_
    simp only [index?_of_not_lt (Nat.not_lt.mpr hge)]
  · have hrefused : (RawLeg.ofBytes bytes).checked? = none := by
      by_contra hsome
      obtain ⟨rec, hrec⟩ := Option.ne_none_iff_exists'.mp hsome
      obtain ⟨hsrc, hdst, hports⟩ := endpoints_of_checked? hrec
      obtain ⟨hburst, hcount, hnext, hexpect⟩ := tail_of_checked? hrec
      have hdigest : ¬ (bytes.length = 33 ∧ (byteAt bytes 28).getLsbD 2 = false) := by
        rintro ⟨h33, hclear⟩
        rw [hexpect h33] at hclear
        cases hclear
      simp only [hdigest, false_or] at hbad
      omega
    refine (execLegLoad_of_takes htakes hkind hn hlen hflags hbody).trans ?_
    simp only [index?_of_lt hlt, hrefused]

end Sys2Proof
end

section
/-! # The moves of the slots, the arbiter and the leg records

The laws of the slots and of the arbiter speak of four things alone: the slots, the suspension stack, the mover and the leg records.
`View` holds them, and `View.Move` lists every way a command can change them between two states in which those laws can hold. A law
then needs one case for each move, and a command is shown once to be a chain of moves. -/

namespace Sys2Proof.Machine

/-- The part as the laws of the slots and of the arbiter see it. -/
structure View where
  slots : SlotIx → Slot
  stack : List Suspended
  mover : Mover
  record : LegIx → Option LegRecord

/-- What a state shows of itself. -/
def State.view (s : State) : View :=
  { slots := s.slot, stack := s.arb.stack, mover := s.arb.mover, record := fun l => (s.leg l).record }

/-- The view with one slot replaced. -/
def View.set (v : View) (i : SlotIx) (y : Slot) : View := { v with slots := Function.update v.slots i y }

/-- The mover serves no slot. -/
def View.Free (v : View) : Prop := ∀ i snap, v.mover ≠ .busy i snap

/-- The outstanding credit of a slot (R33): `State.view_outstanding`. -/
def View.outstanding (v : View) (i : SlotIx) : Nat :=
  (match v.mover with
    | .busy j snap => if j = i ∧ snap.creditUsed = true then 1 else 0
    | _ => 0)
  + (v.stack.filter fun e => decide (e.slot = i) && e.snapshot.creditUsed).length

/-- The snapshot a slot has on the stack: `State.view_stackSnapshot`. -/
def View.stackSnapshot (v : View) (i : SlotIx) : Option Snapshot :=
  (v.stack.find? fun e => decide (e.slot = i)).map (·.snapshot)

/-- No slot but i is bound to the port, where there is one (R24, R32). -/
def View.PortFree (v : View) (i : SlotIx) (port : Option PortIx) : Prop :=
  ∀ p, port = some p → ∀ j, j ≠ i → (v.slots j).boundTo p = false

/-- The states of a slot that stands in a leg between two bursts and is not FAULTED. -/
def LegState.betweenBursts : LegState → Bool
  | .armed | .ready | .paced _ | .held => true
  | .active | .suspended | .faulted _ => false

/-- The slot after a cancel from the stack: its burst is rolled back to the snapshot it has there (R44, R67). -/
def Slot.cancelledFrom (x : Slot) : Option Snapshot → Slot
  | some snap => (x.rolledBack snap).cancelled
  | none => x.cancelled

/-- How leg-end processing can leave a slot that ends leg l (R62–R66). -/
inductive LegEnded (record : LegIx → Option LegRecord) (l : LegIx) (x : Slot) : Slot → Prop
  /-- the chain ends (R64) -/
  | done : LegEnded record l x { x with standing := .done, credits := 0, legRun := false, holdRequested := false }
  /-- the digest or the next leg fails (R62, R65) -/
  | faulted (cause : FaultCause) : cause.resumePoint = .legEnd →
      LegEnded record l x
        { x with
          standing := .inLeg l (.faulted { cause := cause, leg := l, remaining := x.remaining, element := 0 })
          holdRequested := false }
  /-- the slot enters the next leg (R66) -/
  | enters (n : LegIx) (rn : LegRecord) (st : LegState) (hold : Bool) : record n = some rn → st.betweenBursts = true →
      LegEnded record l x { x.entered n rn st with holdRequested := hold }

/-- How a commit can leave its slot, once REMAINING is lowered (R59). -/
inductive BurstEnded (record : LegIx → Option LegRecord) (l : LegIx) (x : Slot) : Slot → Prop
  | goesOn (st : LegState) (hold : Bool) : x.remaining ≠ 0 → st.betweenBursts = true →
      BurstEnded record l x { x with standing := .inLeg l st, holdRequested := hold }
  | legEnds (y : Slot) : x.remaining = 0 → LegEnded record l x y → BurstEnded record l x y

/-- One move. -/
inductive View.Move : View → View → Prop
  /-- SLOT-SETUP (R24) -/
  | setup {v : View} {i : SlotIx} (u : Setup) : (v.slots i).atRest = true → v.PortFree i u.port →
      Move v (v.set i { v.slots i with setup := u })
  /-- the entry of FIRST-LEG (R32) -/
  | arm {v : View} {i : SlotIx} {l : LegIx} {r : LegRecord} : (v.slots i).atRest = true →
      v.PortFree i (v.slots i).setup.port → v.record l = some r →
      Move v (v.set i { (v.slots i).entered l r .armed with credits := 0, holdRequested := false })
  /-- a hold is asked for or withdrawn (R41, R43) -/
  | holdFlag {v : View} {i : SlotIx} (hold : Bool) : Move v (v.set i { v.slots i with holdRequested := hold })
  /-- credits are given (R34) -/
  | credit {v : View} {i : SlotIx} (n : Nat) : (v.slots i).credits + v.outstanding i + n ≤ 15 →
      Move v (v.set i { v.slots i with credits := (v.slots i).credits + n })
  /-- a slot between bursts changes its state, or one FAULTED at BURST goes on (R37–R43, R100) -/
  | turn {v : View} {i : SlotIx} {l : LegIx} {st : LegState} (st' : LegState) :
      (v.slots i).standing = .inLeg l st →
      (st.betweenBursts = true ∨ ∃ f, st = .faulted f ∧ f.cause.resumePoint = .burst) → st'.betweenBursts = true →
      Move v (v.set i { v.slots i with standing := .inLeg l st' })
  /-- a step of the burst in flight (R56, R57) -/
  | element {v : View} {i : SlotIx} {l : LegIx} (src dst : Addr) (digest : Word) (element : Nat) :
      (v.slots i).standing = .inLeg l .active →
      Move v (v.set i { v.slots i with src := src, dst := dst, digest := digest, element := element })
  /-- a suspension (R79); the grant that comes with it is a move of its own -/
  | suspend {v : View} {i : SlotIx} {l : LegIx} {snap : Snapshot} : (v.slots i).standing = .inLeg l .active →
      v.mover = .busy i snap → v.stack.length < 3 →
      Move v
        { v.set i { v.slots i with standing := .inLeg l .suspended } with
          stack := { slot := i, snapshot := snap } :: v.stack, mover := .idle }
  /-- a grant (R75) -/
  | grant {v : View} {i : SlotIx} {l : LegIx} : (v.slots i).standing = .inLeg l .ready → v.Free →
      Move v { v.set i ((v.slots i).burstStart l).1 with mover := .busy i ((v.slots i).burstStart l).2 }
  /-- a pop of the stack (R83) -/
  | pop {v : View} {top : Suspended} {rest : List Suspended} {l : LegIx} {st : LegState} : v.stack = top :: rest →
      (v.slots top.slot).standing = .inLeg l st → v.Free →
      Move v
        { v.set top.slot { v.slots top.slot with standing := .inLeg l .active } with
          stack := rest, mover := .busy top.slot top.snapshot }
  /-- a stack entry whose slot stands in no leg is dropped; the arbiter's law rules it out -/
  | drop {v : View} {top : Suspended} {rest : List Suspended} : v.stack = top :: rest →
      (∀ l st, (v.slots top.slot).standing ≠ .inLeg l st) → v.Free → Move v { v with stack := rest, mover := .idle }
  /-- the mover passes from one state in which it serves no slot to another (R81, R84) -/
  | mover {v : View} (m : Mover) : v.Free → (∀ i snap, m ≠ .busy i snap) → Move v { v with mover := m }
  /-- a burst commits (R59) -/
  | commit {v : View} {i : SlotIx} {l : LegIx} {snap : Snapshot} (r : LegRecord) {y : Slot} : v.mover = .busy i snap →
      (v.slots i).standing = .inLeg l .active → BurstEnded v.record l ((v.slots i).burstDone r) y →
      Move v { v.set i y with mover := .releasing 0 0 }
  /-- an element fails (R92) -/
  | fail {v : View} {i : SlotIx} {l : LegIx} {snap : Snapshot} (cause : FaultCause) (element : Nat) :
      v.mover = .busy i snap → (v.slots i).standing = .inLeg l .active → cause.resumePoint = .burst →
      Move v
        { v.set i
            { (v.slots i).rolledBack snap with
              standing := .inLeg l
                (.faulted { cause := cause, leg := l, remaining := (v.slots i).remaining, element := element })
              holdRequested := false } with
          mover := .releasing 0 0 }
  /-- the ACTIVE slot is cancelled in mid-burst (R45) -/
  | cancelActive {v : View} {i : SlotIx} {l : LegIx} {snap : Snapshot} : v.mover = .busy i snap →
      (v.slots i).standing = .inLeg l .active →
      Move v { v.set i ((v.slots i).rolledBack snap).cancelled with mover := .releasing 0 0 }
  /-- a slot is cancelled where it stands (R44); the mover serves no slot where the arbiter's law is needed to say that it is not
  ACTIVE -/
  | cancel {v : View} {i : SlotIx} : (v.slots i).isSuspended = false → ((v.slots i).isActive = true → v.Free) →
      Move v (v.set i (v.slots i).cancelled)
  /-- a SUSPENDED slot is cancelled (R85) -/
  | cancelSuspended {v : View} {i : SlotIx} : (v.slots i).isSuspended = true →
      Move v
        { v.set i ((v.slots i).cancelledFrom (v.stackSnapshot i)) with
          stack := v.stack.filter fun e => decide (e.slot ≠ i) }
  /-- a slot FAULTED at LEG-END is resumed (R101, R102) -/
  | resume {v : View} {i : SlotIx} {l : LegIx} {r : LegRecord} {f : FaultRecord} {y : Slot} :
      (v.slots i).standing = .inLeg l (.faulted f) → f.cause.resumePoint = .legEnd → v.record l = some r → LegEnded v.record l (v.slots i) y →
      Move v (v.set i y)
  /-- LEG-LINK (R18) -/
  | link {v : View} {l : LegIx} {r : LegRecord} (n : Option LegIx) : v.record l = some r →
      Move v { v with record := Function.update v.record l (some { r with next := n }) }
  /-- one microsecond (R39) -/
  | tick {v : View} : Move v { v with slots := fun i => (v.slots i).tick }
  /-- either reset (R193, R195) -/
  | reset {v : View} (record : LegIx → Option LegRecord) : (∀ l, record l = v.record l ∨ record l = none) →
      Move v { slots := fun _ => Slot.initial, stack := [], mover := .idle, record := record }

/-- A chain of moves. -/
abbrev View.Moves : View → View → Prop := Relation.ReflTransGen View.Move

/-- The state t is reached from s by a chain of moves. -/
abbrev State.Moves (s t : State) : Prop := s.view.Moves t.view

/-! ## What the state's operations show -/

variable {s t u : State} {i : SlotIx} {l : LegIx}

@[simp] theorem State.view_slots (s : State) : s.view.slots = s.slot := rfl

@[simp] theorem State.view_stack (s : State) : s.view.stack = s.arb.stack := rfl

@[simp] theorem State.view_mover (s : State) : s.view.mover = s.arb.mover := rfl

@[simp] theorem State.view_record (s : State) (l : LegIx) : s.view.record l = (s.leg l).record := rfl

/-- A slot of a state whose view is known. -/
theorem State.slot_of_view {v : View} (h : s.view = v) (i : SlotIx) : s.slot i = v.slots i := congrFun (congrArg View.slots h) i

theorem State.view_outstanding (s : State) (i : SlotIx) : s.view.outstanding i = s.outstanding i := rfl

theorem State.view_stackSnapshot (s : State) (i : SlotIx) : s.view.stackSnapshot i = s.stackSnapshot i := rfl

@[simp] theorem View.set_set (v : View) (i : SlotIx) (x y : Slot) : (v.set i x).set i y = v.set i y := by
  simp [View.set]

@[simp] theorem View.set_slots_same (v : View) (i : SlotIx) (y : Slot) : (v.set i y).slots i = y := by simp [View.set]

@[simp] theorem View.set_stack (v : View) (i : SlotIx) (y : Slot) : (v.set i y).stack = v.stack := rfl

@[simp] theorem View.set_mover (v : View) (i : SlotIx) (y : Slot) : (v.set i y).mover = v.mover := rfl

@[simp] theorem View.set_record (v : View) (i : SlotIx) (y : Slot) : (v.set i y).record = v.record := rfl

theorem View.set_slots_ne {v : View} {j : SlotIx} {y : Slot} (h : j ≠ i) : (v.set i y).slots j = v.slots j := by
  simp [View.set, h]

/-- A change of slots, stack, mover and records that the view shows, said once for every operation. -/
theorem State.view_ext {v : View} (hslots : ∀ j, s.slot j = v.slots j) (hstack : s.arb.stack = v.stack)
    (hmover : s.arb.mover = v.mover) (hrecord : ∀ l, (s.leg l).record = v.record l) : s.view = v := by
  obtain ⟨slots, stack, mover, record⟩ := v
  simp only [State.view, View.mk.injEq]
  exact ⟨funext hslots, hstack, hmover, funext hrecord⟩

/-- An operation that leaves the tables of the legs and of the slots and the arbiter as they were is not seen. -/
theorem State.view_eq (hlegs : t.legs = s.legs) (hslots : t.slots = s.slots) (harb : t.arb = s.arb) : t.view = s.view := by
  refine State.view_ext (fun j => ?_) (congrArg Arbiter.stack harb) (congrArg Arbiter.mover harb) fun l => ?_
  · exact congrArg (fun slots => Vector.get slots j) hslots
  · exact congrArg (fun legs => (Vector.get legs l).record) hlegs

@[simp] theorem State.view_updSlot (s : State) (i : SlotIx) (f : Slot → Slot) :
    (s.updSlot i f).view = s.view.set i (f (s.slot i)) :=
  State.view_ext (fun j => by simp [State.slot_updSlot, View.set, State.view, Function.update_apply, eq_comm]) rfl rfl
    fun _ => rfl

@[simp] theorem State.view_setLegState (s : State) (i : SlotIx) (l : LegIx) (st : LegState) :
    (s.setLegState i l st).view = s.view.set i { s.slot i with standing := .inLeg l st } := State.view_updSlot _ _ _

@[simp] theorem State.view_setMover (s : State) (m : Mover) : (s.setMover m).view = { s.view with mover := m } := rfl

@[simp] theorem State.view_setStack (s : State) (st : List Suspended) : (s.setStack st).view = { s.view with stack := st } := rfl

@[simp] theorem State.view_report (s : State) (b : ReportBody) : (s.report b).view = s.view := rfl

@[simp] theorem State.view_answer (s : State) (r : Request) (rep : Reply) : (s.answer r rep).view = s.view := rfl

@[simp] theorem State.view_pass (s : State) (k : EventKind) (i : SlotIx) : (s.pass k i).view = s.view :=
  State.view_eq (by simp) (by simp) (by simp)

@[simp] theorem State.view_markStep (s : State) (i : SlotIx) (l : LegIx) (r : LegRecord) : (s.markStep i l r).view = s.view :=
  State.view_eq (by simp) (by simp) (by simp)

@[simp] theorem State.view_settleCommit (s : State) (l : LegIx) : (s.settleCommit l).view = s.view :=
  State.view_eq (by simp) (by simp) (by simp)

@[simp] theorem State.view_settleBack (s : State) (l : LegIx) : (s.settleBack l).view = s.view :=
  State.view_eq (by simp) (by simp) (by simp)

@[simp] theorem State.view_elementBegins (s : State) : s.elementBegins.view = s.view :=
  State.view_eq (by simp) (by simp) (by simp)

@[simp] theorem State.view_pin (s : State) (l : LegIx) : (s.pin l).view = s.view :=
  State.view_ext (fun _ => rfl) rfl rfl fun m => State.record_pin s l m

@[simp] theorem State.view_unpin (s : State) (l : LegIx) : (s.unpin l).view = s.view :=
  State.view_ext (fun _ => rfl) rfl rfl fun m => State.record_unpin s l m

@[simp] theorem State.view_rollback (s : State) (i : SlotIx) (l : LegIx) (snap : Snapshot) :
    (s.rollback i l snap).view = s.view.set i ((s.slot i).rolledBack snap) := by simp [State.rollback]

@[simp] theorem State.view_giveBackGrant (s : State) (r : LegRecord) : (s.giveBackGrant r).view = s.view := by
  unfold State.giveBackGrant
  split <;> rfl

/-- The view after an entry to FAULTED (R92). -/
@[simp] theorem State.view_enterFaulted (s : State) (i : SlotIx) (l : LegIx) (c : FaultCause) (e : Nat) :
    (s.enterFaulted i l c e).view =
      s.view.set i
        { s.slot i with
          standing := .inLeg l (.faulted { cause := c, leg := l, remaining := (s.slot i).remaining, element := e })
          holdRequested := false } := by
  unfold State.enterFaulted
  dsimp only
  split <;> simp

/-- The view after a grant (R75). -/
theorem State.view_grant (h : (s.slot i).standing = .inLeg l .ready) :
    (s.grant i).view =
      { s.view.set i ((s.slot i).burstStart l).1 with mover := .busy i ((s.slot i).burstStart l).2 } := by
  have hslot := congrArg View.slots (s.view_updSlot i fun _ => ((s.slot i).burstStart l).1)
  simp only [State.grant, h, State.view_elementBegins]
  exact State.view_ext (fun j => congrFun hslot j) rfl rfl fun _ => rfl

theorem State.OnlyLink.view_eq (h : s.OnlyLink t) : t.view = s.view := by
  obtain ⟨k, rfl⟩ := h
  rfl

end Sys2Proof.Machine
end

section
/-! # Every command is a chain of moves

One lemma for each operation of the transfer side, in the order of the definitions, then one for each row of the table. -/

namespace Sys2Proof.Machine

open Relation (ReflTransGen)

variable {s t u : State} {i : SlotIx} {l : LegIx} {snap : Snapshot}

/-- An operation that the view does not see. -/
theorem State.Moves.of_view_eq (h : t.view = s.view) : s.Moves t := by
  rw [State.Moves, h]

/-- One move. -/
theorem State.Moves.of_move {v : View} (hmove : s.view.Move v) (h : t.view = v) : s.Moves t := by
  rw [State.Moves, h]
  exact .single hmove

theorem State.OnlyLink.moves (h : s.OnlyLink t) : s.Moves t := .of_view_eq h.view_eq

/-! ## The arbiter -/

theorem State.moves_grant (hfree : s.view.Free) (i : SlotIx) : s.Moves (s.grant i) := by
  cases hi : (s.slot i).standing with
  | inLeg l st =>
    cases st with
    | ready => exact .of_move (.grant (v := s.view) (i := i) hi hfree) (State.view_grant hi)
    | armed | active | suspended | paced _ | held | faulted _ => exact .of_view_eq (by simp [State.grant, hi])
  | idle | done => exact .of_view_eq (by simp [State.grant, hi])

theorem State.moves_setMover (hfree : s.view.Free) {m : Mover} (hm : ∀ i snap, m ≠ .busy i snap) : s.Moves (s.setMover m) :=
  .of_move (.mover m hfree hm) rfl

theorem State.moves_pop {top : Suspended} {rest : List Suspended} (hstack : s.arb.stack = top :: rest)
    (hfree : s.view.Free) : s.Moves (s.pop top rest) := by
  unfold State.pop
  split
  · next l st hi => exact .of_move (.pop (v := s.view) hstack hi hfree) (by simp)
  · next hi => exact .of_move (.drop (v := s.view) hstack hi hfree) (by simp)

theorem State.moves_select (hfree : s.view.Free) : s.Moves s.select := by
  unfold State.select
  split
  · exact State.moves_setMover hfree (by simp)
  · exact (State.moves_setMover hfree (by simp)).trans (State.moves_grant (by simp [View.Free]) _)
  · next hstack _ => exact State.moves_pop hstack hfree
  · next hstack _ =>
    split
    · exact State.moves_grant hfree _
    · exact State.moves_pop hstack hfree

/-- A slot between bursts changes its state in its leg. -/
theorem State.moves_turn {st : LegState} (hi : (s.slot i).standing = .inLeg l st)
    (hst : st.betweenBursts = true ∨ ∃ f, st = .faulted f ∧ f.cause.resumePoint = .burst) {st' : LegState}
    (hst' : st'.betweenBursts = true) : s.Moves (s.setLegState i l st') :=
  .of_move (.turn (v := s.view) st' hi hst hst') (by simp)

theorem State.moves_evaluate (s : State) (i : SlotIx) : s.Moves (s.evaluate i) := by
  unfold State.evaluate
  split
  · next hi =>
    have hready : s.Moves (s.setLegState i _ .ready) := State.moves_turn hi (.inl rfl) rfl
    split
    · split
      · next hidle => exact hready.trans (State.moves_grant (by simp [View.Free, State.view, hidle]) i)
      · exact hready
    · exact .refl
  · exact .refl

theorem State.moves_signal (s : State) (p : PortIx) (was : Bool) : s.Moves (s.signal p was) := by
  unfold State.signal
  split
  · split
    · exact s.moves_evaluate _
    · exact .refl
  · exact .refl

/-- A preemption is a suspension and a grant (R79). -/
theorem State.moves_preemptionCheck (hi : (s.slot i).standing = .inLeg l .active) (hmover : s.arb.mover = .busy i snap) :
    s.Moves (s.preemptionCheck i l snap) := by
  have hbegins : s.Moves s.elementBegins := .of_view_eq s.view_elementBegins
  unfold State.preemptionCheck
  split
  · next q hq =>
    split
    · next hpreempts =>
      obtain ⟨-, -, -, hdepth⟩ := hpreempts
      obtain ⟨lq, hready⟩ := State.bestReady_standing hq
      have hne : i ≠ q := by
        rintro rfl
        simp [hi] at hready
      let pushed := (s.setLegState i l .suspended).setStack ({ slot := i, snapshot := snap } :: s.arb.stack)
      have hready' : (pushed.slot q).standing = .inLeg lq .ready := by
        simpa [pushed, State.slot_setLegState, hne] using hready
      have hsuspend : s.Moves (pushed.setMover .idle) :=
        .of_move (.suspend (v := s.view) hi hmover hdepth) (by simp [pushed])
      refine hsuspend.trans (State.Moves.of_move (.grant (i := q) (l := lq) hready' (by simp [View.Free])) ?_)
      exact State.view_grant hready'
    · exact hbegins
  · exact hbegins

/-! ## Holds, credits, arming -/

theorem State.moves_hold? (h : s.hold? i = some t) : s.Moves t := by
  unfold State.hold? at h
  split at h <;> simp only [Option.some.injEq, reduceCtorEq] at h <;> subst h
  · next hi => exact State.moves_turn hi (.inl rfl) rfl
  · next hi => exact State.moves_turn hi (.inl rfl) rfl
  · next hi => exact State.moves_turn hi (.inl rfl) rfl
  · exact .of_move (.holdFlag (i := i) true) (s.view_updSlot _ _)
  · exact .of_move (.holdFlag (i := i) true) (s.view_updSlot _ _)
  · exact .refl

theorem State.moves_addCredits {n : Nat} (h : s.addCredits i n = .ok t) : s.Moves t := by
  unfold State.addCredits at h
  split at h
  · cases h
  · split at h
    · cases h
    · split at h
      · cases h
      · next hcap =>
        cases h
        have hgiven : s.Moves (s.updSlot i fun x => { x with credits := x.credits + n }) :=
          .of_move (.credit (v := s.view) (i := i) n (Nat.le_of_not_lt hcap)) (s.view_updSlot _ _)
        exact hgiven.trans (State.moves_evaluate _ _)

theorem State.portFree_of_portTaken {port : Option PortIx} (h : ¬ s.portTaken i port = true) : s.view.PortFree i port := by
  rintro p rfl j hj
  simp only [State.portTaken, State.portHeldByOther, List.any_eq_true, List.mem_finRange, true_and, Bool.and_eq_true,
    decide_eq_true_eq, not_exists, not_and, Bool.not_eq_true] at h
  exact h j hj

theorem State.moves_arm (h : s.arm i = .ok t) : s.Moves t := by
  unfold State.arm at h
  split at h
  · next hrest =>
    split at h
    · cases h
    · split at h
      · cases h
      · next hport =>
        split at h
        · split at h
          · next hrec =>
            cases h
            refine .trans ?_ (State.moves_evaluate _ _)
            exact State.Moves.of_move (.arm (v := s.view) hrest (State.portFree_of_portTaken hport) hrec) (by simp)
          · cases h
        · cases h
  · cases h

/-! ## Leg ends and commits -/

/-- A slot that goes on with leg l is between bursts there, and an evaluation may follow (R38). -/
theorem State.goOn_moves (s : State) (i : SlotIx) (l : LegIx) (atCommit : Bool) :
    ∃ st : LegState, st.betweenBursts = true ∧
      (s.view.set i { s.slot i with standing := .inLeg l st }).Moves (s.goOn i l atCommit).view := by
  unfold State.goOn
  split
  · exact ⟨.paced _, rfl, by rw [State.view_setLegState]⟩
  · refine ⟨.armed, rfl, ?_⟩
    rw [← State.view_setLegState]
    exact State.moves_evaluate _ _

/-- The view after a hold at a burst boundary (R41, R66). -/
theorem State.view_becomeHeld (s : State) (i : SlotIx) (l : LegIx) :
    (s.becomeHeld i l).view = s.view.set i { s.slot i with standing := .inLeg l .held, holdRequested := false } := by
  simp [State.becomeHeld]

/-- Step 3 ends the leg in one of three ways, and an evaluation may follow (R64–R66). -/
theorem State.legEndStep3_moves (s : State) (i : SlotIx) (l : LegIx) (r : LegRecord) (atCommit : Bool) :
    ∃ y, LegEnded s.view.record l (s.slot i) y ∧ (s.view.set i y).Moves (s.legEndStep3 i l r atCommit).view := by
  have hfault : ∃ y, LegEnded s.view.record l (s.slot i) y ∧ (s.view.set i y).Moves (s.enterFaulted i l .leg 0).view :=
    ⟨_, .faulted .leg rfl, by rw [State.view_enterFaulted]⟩
  unfold State.legEndStep3
  split
  · exact ⟨_, .done, by simp [State.chainEnds]; rfl⟩
  · next n _ =>
    split
    · next rn hrn =>
      split
      · unfold State.entersNext
        dsimp only
        split
        · refine ⟨_, .enters n rn .held false hrn rfl, ?_⟩
          simp [State.view_becomeHeld, Slot.entered]
          rfl
        · obtain ⟨st, hst, hmoves⟩ :=
            State.goOn_moves (((s.updSlot i fun x => x.entered n rn .armed).unpin l).pin n) i n atCommit
          refine ⟨_, .enters n rn st (s.slot i).holdRequested hrn hst, ?_⟩
          simpa [Slot.entered] using hmoves
      · exact hfault
    · exact hfault

theorem State.legEndStep2_moves (s : State) (i : SlotIx) (l : LegIx) (r : LegRecord) (atCommit : Bool) :
    ∃ y, LegEnded s.view.record l (s.slot i) y ∧ (s.view.set i y).Moves (s.legEndStep2 i l r atCommit).view := by
  have hstep (u : State) (hu : u.view = s.view) :
      ∃ y, LegEnded s.view.record l (s.slot i) y ∧
        (s.view.set i y).Moves ((u.pass .legEnd i).legEndStep3 i l r atCommit).view := by
    have hpass : (u.pass .legEnd i).view = s.view := (u.view_pass _ _).trans hu
    obtain ⟨y, hy, hmoves⟩ := State.legEndStep3_moves (u.pass .legEnd i) i l r atCommit
    rw [hpass] at hy hmoves
    have hslot : (u.pass .legEnd i).slot i = s.slot i := State.slot_of_view hpass i
    exact ⟨y, hslot ▸ hy, hmoves⟩
  unfold State.legEndStep2
  dsimp only
  split
  · exact hstep _ (s.view_report _)
  · exact hstep s rfl

theorem State.legEndStep1_moves (s : State) (i : SlotIx) (l : LegIx) (r : LegRecord) :
    ∃ y, LegEnded s.view.record l (s.slot i) y ∧ (s.view.set i y).Moves (s.legEndStep1 i l r).view := by
  unfold State.legEndStep1
  split
  · next e a _ => exact ⟨_, .faulted (.digest e a) rfl, by rw [State.view_enterFaulted]⟩
  · exact s.legEndStep2_moves i l r true

theorem State.afterBurst_moves (s : State) (i : SlotIx) (l : LegIx) (r : LegRecord) :
    ∃ y, BurstEnded s.view.record l (s.slot i) y ∧ (s.view.set i y).Moves (s.afterBurst i l r).view := by
  unfold State.afterBurst
  split
  · next hzero =>
    obtain ⟨y, hy, hmoves⟩ := s.legEndStep1_moves i l r
    exact ⟨y, .legEnds y hzero hy, hmoves⟩
  · next hpos =>
    split
    · exact ⟨_, .goesOn .held false hpos rfl, by rw [State.view_becomeHeld]⟩
    · obtain ⟨st, hst, hmoves⟩ := s.goOn_moves i l true
      exact ⟨_, .goesOn st (s.slot i).holdRequested hpos hst, hmoves⟩

theorem State.moves_commit (hi : (s.slot i).standing = .inLeg l .active) (hmover : s.arb.mover = .busy i snap)
    (r : LegRecord) : s.Moves (s.commit i l r) := by
  let done := ((((s.settleCommit l).updSlot i fun x => x.burstDone r).setMover (.releasing 0 0)).markStep i l r).pass .burstEnd i
  have hsettled : (s.settleCommit l).slot i = s.slot i := State.slot_of_view (s.view_settleCommit l) i
  have hdone : done.view = { s.view.set i ((s.slot i).burstDone r) with mover := .releasing 0 0 } := by simp [done, hsettled]
  have hslot : done.slot i = (s.slot i).burstDone r := (State.slot_of_view hdone i).trans (by simp)
  obtain ⟨y, hy, hmoves⟩ := done.afterBurst_moves i l r
  rw [hslot, hdone] at hy
  rw [hdone] at hmoves
  have hmove : s.view.Move { s.view.set i y with mover := .releasing 0 0 } := .commit r hmover hi hy
  refine .trans (.single hmove) ?_
  simp only [View.set, Function.update_idem] at hmoves ⊢
  exact hmoves

/-! ## Cancels and the release -/

theorem State.view_idleFrom (s : State) (i : SlotIx) (l : LegIx) (e : Nat) :
    (s.idleFrom i l e).view = s.view.set i (s.slot i).cancelled := by simp [State.idleFrom]

theorem State.moves_cancelSuspended (hi : (s.slot i).standing = .inLeg l .suspended) : s.Moves (s.cancelSuspended i l) := by
  refine .of_move (.cancelSuspended (v := s.view) (i := i) (by simp [State.view, Slot.isSuspended, hi])) ?_
  simp only [State.cancelSuspended, State.view_idleFrom, State.view_setStack, State.slot_setStack, State.view_stackSnapshot]
  cases s.stackSnapshot i with
  | none => rfl
  | some snap =>
    have hslot : (s.rollback i l snap).slot i = (s.slot i).rolledBack snap :=
      (State.slot_of_view (s.view_rollback i l snap) i).trans (by simp)
    simp [hslot, View.set, Slot.cancelledFrom]

theorem State.moves_cancelAtOnce (hfree : (s.slot i).isActive = true → s.view.Free) : s.Moves (s.cancelAtOnce i) := by
  have hidle (h : (s.slot i).isSuspended = false) {t : State} (ht : t.view = s.view.set i (s.slot i).cancelled) : s.Moves t :=
    .of_move (.cancel (v := s.view) h hfree) ht
  unfold State.cancelAtOnce
  split
  · exact .refl
  · next hi => exact hidle (by simp [Slot.isSuspended, hi]) (by simp [State.idleFromDone])
  · next hi => exact State.moves_cancelSuspended hi
  · next l st hst hi =>
    refine hidle ?_ (State.view_idleFrom _ _ _ _)
    cases st <;> simp_all [Slot.isSuspended]

theorem State.moves_cancelWaiting (hfree : s.view.Free) : s.Moves s.cancelWaiting := by
  rcases State.cancelWaiting_cases (s := s) with ⟨e, i, -, -, h⟩ | ⟨-, h⟩
  · rw [h]
    exact State.moves_cancelAtOnce fun _ => hfree
  · rw [h]

/-- A cancel leaves the mover as it is. -/
theorem State.mover_cancelAtOnce (s : State) (i : SlotIx) : (s.cancelAtOnce i).arb.mover = s.arb.mover := by
  unfold State.cancelAtOnce
  split
  · rfl
  · simp
  · unfold State.cancelSuspended
    cases s.stackSnapshot i <;> simp
  · simp

theorem State.free_cancelWaiting (hfree : s.view.Free) : s.cancelWaiting.view.Free := by
  rcases State.cancelWaiting_cases (s := s) with ⟨e, i, -, -, h⟩ | ⟨-, h⟩
  · intro j snap
    rw [h, State.view_answer, State.view_mover, State.mover_cancelAtOnce]
    exact hfree j snap
  · rwa [h]

theorem State.moves_release (hfree : s.view.Free) : s.Moves s.release :=
  (State.moves_cancelWaiting hfree).trans (State.moves_select (State.free_cancelWaiting hfree))

/-- A waiting cancel acts or not, and the release stays outstanding (R45, R84). -/
theorem State.moves_release_stays (hfree : s.view.Free) (now : Prop) [Decidable now] (c n : Nat) :
    s.Moves ((if now then s.cancelWaiting else s).setMover (.releasing c n)) := by
  split
  · exact (State.moves_cancelWaiting hfree).trans (State.moves_setMover (State.free_cancelWaiting hfree) (by simp))
  · exact State.moves_setMover hfree (by simp)

theorem State.moves_releaseAt (hfree : s.view.Free) (c n : Nat) : s.Moves (s.releaseAt c n) := by
  unfold State.releaseAt
  split
  · exact State.moves_release hfree
  · exact State.moves_release_stays hfree _ _ _

theorem State.moves_passPoint (s : State) : s.Moves s.passPoint := by
  unfold State.passPoint
  split
  · next hmover =>
    have hfree : s.view.Free := by simp [View.Free, State.view, hmover]
    split
    · exact State.moves_release hfree
    · exact State.moves_release_stays hfree _ _ _
  · exact .refl

/-! ## ENGINE-RESET and the resume -/

theorem State.moves_engineReset (s : State) (r : Request) : s.Moves (s.engineReset r) :=
  .of_move (.reset s.view.record fun _ => .inl rfl)
    (State.view_ext (fun j => by simp [State.engineReset, State.resetBlocks, State.slot]) rfl rfl
      fun l => by simp [State.engineReset, State.resetBlocks, State.leg, State.view])

theorem State.moves_resumeFaulted {f : FaultRecord} (hi : (s.slot i).standing = .inLeg l (.faulted f))
    (h : s.resumeFaulted i l f.cause = .done t) : s.Moves t := by
  have hburst (hf : f.cause.resumePoint = .burst) : s.Moves ((s.setLegState i l .armed).evaluate i) :=
    (State.moves_turn hi (.inr ⟨f, rfl, hf⟩) rfl).trans (State.moves_evaluate _ _)
  have hlegEnd (hf : f.cause.resumePoint = .legEnd) {r : LegRecord} (hr : (s.leg l).record = some r) {t : State}
      (ht : ∃ y, LegEnded s.view.record l (s.slot i) y ∧ (s.view.set i y).Moves t.view) : s.Moves t := by
    obtain ⟨y, hy, hmoves⟩ := ht
    exact .head (.resume (v := s.view) hi hf hr hy) hmoves
  unfold State.resumeFaulted at h
  split at h
  · next hf => split at h <;> cases h; exact hburst (by rw [hf]; rfl)
  · next hf => split at h <;> cases h; exact hburst (by rw [hf]; rfl)
  · next hf => split at h <;> cases h; exact hburst (by rw [hf]; rfl)
  · next hf =>
    split at h
    · next hr => cases h; exact hlegEnd (by rw [hf]; rfl) hr (s.legEndStep2_moves _ _ _ _)
    · cases h
  · next hf =>
    split at h
    · next hr => cases h; exact hlegEnd (by rw [hf]; rfl) hr (s.legEndStep3_moves _ _ _ _)
    · cases h

end Sys2Proof.Machine
end

section
/-! # An element and every row of the table are chains of moves -/

namespace Sys2Proof.Machine

variable {s t u : State} {i : SlotIx} {l : LegIx} {snap : Snapshot}

/-! ## The element -/

theorem State.moves_endBurst (hfree : s.view.Free) (c n : Nat) : s.Moves (s.endBurst c n) := by
  unfold State.endBurst
  split
  · split
    · exact s.moves_engineReset _
    · exact State.moves_releaseAt hfree c n
  · exact State.moves_releaseAt hfree c n

/-- The causes of a failed element resume at BURST (R89, R92). -/
theorem State.resumePoint_of_failed {fences : Vector Fence 8} {r : LegRecord} {c : FaultCause}
    (h : s.elementSteps fences i r = .failed c) : c.resumePoint = .burst := by
  unfold State.elementSteps sourceDenied? destDenied? State.elementRead at h
  aesop

theorem State.moves_elementFails (hi : (s.slot i).standing = .inLeg l .active) (hmover : s.arb.mover = .busy i snap)
    {cause : FaultCause} (hcause : cause.resumePoint = .burst) (c n : Nat) :
    s.Moves (s.elementFails c n i l snap cause) := by
  let failed := ((s.rollback i l snap).setMover (.releasing 0 0)).enterFaulted i l cause (s.slot i).element
  have hslot : (s.rollback i l snap).slot i = (s.slot i).rolledBack snap :=
    (State.slot_of_view (s.view_rollback i l snap) i).trans (by simp)
  have hfailed : s.Moves failed :=
    .of_move (.fail (v := s.view) cause (s.slot i).element hmover hi hcause)
      (by simp [failed, hslot, View.set, Slot.rolledBack])
  exact hfailed.trans (State.moves_endBurst (by simp [View.Free, View.set, failed]) c n)

theorem State.moves_cancelActive (hi : (s.slot i).standing = .inLeg l .active) (hmover : s.arb.mover = .busy i snap) (n : Nat)
    (r : Request) : s.Moves (s.cancelActive n i l snap r) := by
  let idle := (((s.rollback i l snap).setMover (.releasing 0 0)).idleFrom i l (s.slot i).element).answer r (Reply.bare .ok)
  have hslot : (s.rollback i l snap).slot i = (s.slot i).rolledBack snap :=
    (State.slot_of_view (s.view_rollback i l snap) i).trans (by simp)
  have hidle : s.Moves idle :=
    .of_move (.cancelActive (v := s.view) hmover hi) (by simp [idle, hslot, State.view_idleFrom, View.set])
  exact hidle.trans (State.moves_releaseAt (by simp [View.Free, idle]) 0 n)

theorem State.moves_midBurst (hi : (s.slot i).standing = .inLeg l .active) (hmover : s.arb.mover = .busy i snap) (n : Nat) :
    s.Moves (s.midBurst n i l snap) := by
  have hcheck := State.moves_preemptionCheck hi hmover
  unfold State.midBurst
  split
  · split
    · split
      · exact State.moves_cancelActive hi hmover n _
      · exact hcheck
    · exact s.moves_engineReset _
    · exact hcheck
  · exact hcheck

/-! While the mover is not idle an evaluation only makes its slot READY, so a commit leaves the arbiter at its release. -/

theorem State.arb_evaluate (h : s.arb.mover ≠ .idle) (i : SlotIx) : (s.evaluate i).arb = s.arb := by
  unfold State.evaluate
  split
  · split
    · split
      · next hidle => exact absurd hidle h
      · rfl
    · rfl
  · rfl

theorem State.arb_goOn (h : s.arb.mover ≠ .idle) (i : SlotIx) (l : LegIx) (atCommit : Bool) :
    (s.goOn i l atCommit).arb = s.arb := by
  unfold State.goOn
  split
  · rfl
  · exact State.arb_evaluate (s := s.setLegState i l .armed) h i

theorem State.arb_legEndStep3 (h : s.arb.mover ≠ .idle) (i : SlotIx) (l : LegIx) (r : LegRecord) (atCommit : Bool) :
    (s.legEndStep3 i l r atCommit).arb = s.arb := by
  unfold State.legEndStep3
  split
  · simp
  · split
    · split
      · unfold State.entersNext
        dsimp only
        split
        · simp
        · exact State.arb_goOn (s := ((s.updSlot i _).unpin l).pin _) h i _ _
      · simp
    · simp

theorem State.arb_legEndStep1 (h : s.arb.mover ≠ .idle) (i : SlotIx) (l : LegIx) (r : LegRecord) :
    (s.legEndStep1 i l r).arb = s.arb := by
  have hstep (u : State) (hu : u.arb = s.arb) : ((u.pass .legEnd i).legEndStep3 i l r true).arb = s.arb := by
    rw [State.arb_legEndStep3 (by simpa [hu] using h)]
    simpa using hu
  unfold State.legEndStep1
  split
  · simp
  · unfold State.legEndStep2
    dsimp only
    split
    · exact hstep _ rfl
    · exact hstep s rfl

theorem State.arb_afterBurst (h : s.arb.mover ≠ .idle) (i : SlotIx) (l : LegIx) (r : LegRecord) :
    (s.afterBurst i l r).arb = s.arb := by
  unfold State.afterBurst
  split
  · exact State.arb_legEndStep1 h i l r
  · split
    · simp
    · exact State.arb_goOn h i l true

/-- A commit leaves the mover at its release (R59). -/
theorem State.arb_commit (s : State) (i : SlotIx) (l : LegIx) (r : LegRecord) :
    (s.commit i l r).arb = { s.arb with mover := .releasing 0 0 } := by
  unfold State.commit
  rw [State.arb_afterBurst (by simp)]
  simp

theorem State.free_commit (s : State) (i : SlotIx) (l : LegIx) (r : LegRecord) : (s.commit i l r).view.Free := by
  simp [View.Free, State.arb_commit]

theorem State.moves_elementCompletes (hi : (s.slot i).standing = .inLeg l .active) (hmover : s.arb.mover = .busy i snap)
    (c n : Nat) (r : LegRecord) : s.Moves (s.elementCompletes c n i l r snap) := by
  unfold State.elementCompletes
  split
  · let risen := s.updSlot i fun x => { x with element := x.element + 1 }
    have hrisen : s.Moves risen :=
      .of_move (.element (v := s.view) _ _ _ ((s.slot i).element + 1) hi) (s.view_updSlot i _)
    have hactive : (risen.slot i).standing = .inLeg l .active := by simpa [risen] using hi
    exact hrisen.trans (State.moves_midBurst hactive hmover n)
  · exact (State.moves_commit hi hmover r).trans (State.moves_endBurst (s.free_commit i l r) c n)

/-- The six steps change the slot's addresses and digest, and nothing else that the view shows (R52). -/
theorem State.view_elementSteps {fences : Vector Fence 8} {r : LegRecord} (h : s.elementSteps fences i r = .moved t) :
    ∃ w, t.view = s.view.set i ((s.slot i).stepped r w) := by
  have hread {x : Slot} {w : Word} {t : State} (h : s.elementRead r x = .word w t) : t.view = s.view := by
    unfold State.elementRead at h
    split at h
    · split at h <;> cases h
      rfl
    · split at h <;> cases h
      rfl
    · cases h
      rfl
  have hwrite {t u : State} {x : Slot} {w : Word} (h : t.elementWrite r x w = .ok u) : u.view = t.view := by
    unfold State.elementWrite at h
    split at h
    · cases h
      rfl
    · split at h <;> cases h
      rfl
  unfold State.elementSteps at h
  split at h
  · cases h
  · split at h
    · cases h
    · split at h
      · cases h
      · cases h
      · next w t hr =>
        split at h
        · cases h
        · next u hw =>
          cases h
          have hu : u.view = s.view := (hwrite hw).trans (hread hr)
          exact ⟨w, by rw [State.view_updSlot, hu, State.slot_of_view hu i]; rfl⟩

theorem State.moves_runElement (hi : (s.slot i).standing = .inLeg l .active) (hmover : s.arb.mover = .busy i snap)
    {order : ElementOrder} {r : LegRecord} (h : s.runElement order i l r snap = .next t) : s.Moves t := by
  unfold State.runElement at h
  split at h
  · next u hsteps =>
    cases h
    obtain ⟨w, hu⟩ := State.view_elementSteps hsteps
    have hgiven : (u.giveBackGrant r).view = s.view.set i ((s.slot i).stepped r w) := (u.view_giveBackGrant r).trans hu
    have hmoved : s.Moves (u.giveBackGrant r) := .of_move (.element (v := s.view) _ _ _ (s.slot i).element hi) hgiven
    refine hmoved.trans (State.moves_elementCompletes ?_ ?_ _ _ r)
    · rw [State.slot_of_view hgiven i, View.set_slots_same]
      exact hi
    · exact (congrArg View.mover hgiven).trans hmover
  · next c hsteps =>
    cases h
    have hgiven := s.view_giveBackGrant r
    have hmoves : s.Moves (s.giveBackGrant r) := .of_view_eq hgiven
    refine hmoves.trans (State.moves_elementFails ?_ ?_ (State.resumePoint_of_failed hsteps) _ _)
    · rw [State.slot_of_view hgiven i]
      exact hi
    · exact (congrArg View.mover hgiven).trans hmover
  · cases h

theorem moves_execElement {order : ElementOrder} (h : execElement order s = .next t) : s.Moves t := by
  unfold execElement at h
  split at h
  · split at h
    · next i snap hmover =>
      split at h
      · next l hi =>
        split at h
        · split at h
          · cases h
            exact .refl
          · exact State.moves_runElement hi hmover h
        · cases h
      · cases h
    · next hmover =>
      cases h
      exact State.moves_release (by simp [View.Free, hmover])
    · cases h
      exact .refl
  · cases h
    exact .refl

/-! ## The trigger table -/

theorem State.moves_act (s : State) (k : TrigIx) (i : SlotIx) (a : Action) : s.Moves (s.act k i a) := by
  cases a with
  | start =>
    cases h : s.addCredits i 1 with
    | ok t => simpa only [State.act, h] using State.moves_addCredits h
    | error e => simpa only [State.act, h] using State.Moves.of_view_eq (s.view_report _)
  | arm =>
    cases h : s.arm i with
    | ok t => simpa only [State.act, h] using State.moves_arm h
    | error e => simpa only [State.act, h] using State.Moves.of_view_eq (s.view_report _)
  | hold =>
    cases h : s.hold? i with
    | some t => simpa only [State.act, h] using State.moves_hold? h
    | none => simpa only [State.act, h] using State.Moves.of_view_eq (s.view_report _)

theorem State.moves_fireEntry (s : State) (e : SlotEvent) (k : TrigIx) : s.Moves (s.fireEntry e k) := by
  unfold State.fireEntry
  split
  · split
    · have hset : s.Moves (s.setTrigger k { s.trigger k with enabled := false }) := .of_view_eq rfl
      exact hset.trans (State.moves_act _ _ _ _)
    · exact s.moves_act _ _ _
  · exact .refl

theorem State.moves_scan (s : State) (e : SlotEvent) : s.Moves (s.scan e) := by
  unfold State.scan
  generalize List.finRange 32 = ks
  induction ks generalizing s with
  | nil => exact s.moves_passPoint
  | cons k ks ih => exact s.moves_passPoint.trans ((State.moves_fireEntry _ e k).trans (ih _))

end Sys2Proof.Machine
end

section
/-! # Every step is a chain of moves, or a LEG-LOAD

LEG_LOAD replaces a record, which no law of REMAINING would bear where a slot stands in the leg; so it stands apart, with the pin
count it found. -/

namespace Sys2Proof.Machine

variable {s t u : State}

/-- The state t has the record of one unpinned leg replaced, and shows no other change (R14). -/
def State.Loads (s t : State) : Prop :=
  ∃ l r, (s.leg l).pins = 0 ∧ t.view = { s.view with record := Function.update s.view.record l (some r) }

theorem State.Moves.onlyLink (hs : s.Moves t) (h : t.OnlyLink u) : s.Moves u := hs.trans h.moves

theorem moves_serve {k : ReqKind} {owner : Request → State → Host.Outcome State Fault Refusal}
    (howner : ∀ {r t u}, owner r t = .next u → t.Moves u) (h : s.serve k owner = .next u) : s.Moves u :=
  State.serve_keeps (P := s.Moves) (fun hlink hs => hs.onlyLink hlink) (fun hs hu => hs.trans (howner hu)) .refl h

theorem moves_serveNow {k : ReqKind} {owner : List Byte → State → State × Reply} (howner : ∀ b (t : State), t.Moves (owner b t).1)
    (h : s.serveNow k owner = .next u) : s.Moves u :=
  State.serveNow_keeps (P := s.Moves) (fun hlink hs => hs.onlyLink hlink) (fun b t hs => hs.trans (howner b t)) .refl h

theorem moves_whenRunning {f : State → State} (hf : ∀ t : State, t.Moves (f t)) (h : s.whenRunning f = .next u) : s.Moves u :=
  State.whenRunning_keeps (P := s.Moves) (fun hs => hs.trans (hf _)) .refl h

/-- An owner's answer follows what the owner has done. -/
theorem State.Moves.answered {r : Request} {rep : Reply} (hs : s.Moves t)
    (h : (Host.Outcome.next (t.answer r rep) : Host.Outcome State Fault Refusal) = .next u) : s.Moves u := by
  cases h
  exact hs.onlyLink (t.onlyLink_answer r rep)

/-- A slot request answers RANGE and changes nothing, or acts on its slot (R22). -/
theorem moves_withSlot {b : List Byte} {f : SlotIx → State × Reply} (hf : ∀ i, t.Moves (f i).1) :
    t.Moves (withSlot b t f).1 := by
  unfold withSlot
  split
  · exact .refl
  · exact hf _

/-! ## The leg store -/

/-- The view after a record is written (R14, R18). -/
theorem State.view_writeRecord (s : State) (l : LegIx) (r : LegRecord) :
    (s.updLeg l fun e => { e with record := some r }).view =
      { s.view with record := Function.update s.view.record l (some r) } :=
  State.view_ext (fun _ => rfl) rfl rfl fun m => by
    simp only [State.leg_updLeg, Function.update_apply, @eq_comm _ m l, apply_ite LegEntry.record, State.view_record]

/-- LEG_LOAD shows nothing, or the record of one unpinned leg replaced (R14). -/
theorem execLegLoad_shows (h : execLegLoad s = .next u) : u.view = s.view ∨ s.Loads u := by
  unfold execLegLoad State.serveNow at h
  rcases s.serve_cases .legLoad _ with ⟨-, hserve⟩ | ⟨r, t, st, htake, -, hserve⟩ | ⟨r, t, htake, -, hserve⟩
  · cases hserve.symm.trans h
    exact .inl rfl
  · cases hserve.symm.trans h
    exact .inl (State.onlyLink_takeRequest? htake).view_eq
  · cases hserve.symm.trans h
    obtain ⟨k, rfl⟩ := State.onlyLink_takeRequest? htake
    unfold State.Loads
    simp only [State.view_answer]
    split
    · exact .inl rfl
    · next l _ =>
      split
      · exact .inl rfl
      · next rec _ =>
        split
        · next hpins => exact .inr ⟨l, rec, hpins, State.view_writeRecord _ l rec⟩
        · exact .inl rfl

theorem moves_execLegLink (h : execLegLink s = .next u) : s.Moves u := by
  refine moves_serveNow (fun b t => ?_) h
  split
  · exact .refl
  · next l _ =>
    split
    · exact .refl
    · next n _ =>
      split
      · exact .refl
      · next r hr => exact .of_move (.link (v := t.view) n hr) (t.view_writeRecord l _)

/-! ## The slot table -/

theorem moves_execSlotSetup (h : execSlotSetup s = .next u) : s.Moves u := by
  refine moves_serveNow (fun b t => moves_withSlot fun i => ?_) h
  split
  · exact .refl
  · split
    · next hrest =>
      split
      · exact .refl
      · next hport =>
        exact .of_move (.setup (v := t.view) _ hrest (State.portFree_of_portTaken hport)) (t.view_updSlot i _)
    · exact .refl

theorem moves_execSlotArm (h : execSlotArm s = .next u) : s.Moves u := by
  refine moves_serveNow (fun b t => moves_withSlot fun i => ?_) h
  split
  · next harm => exact State.moves_arm harm
  · exact .refl

theorem moves_execSlotStart (h : execSlotStart s = .next u) : s.Moves u := by
  refine moves_serveNow (fun b t => moves_withSlot fun i => ?_) h
  split
  · split
    · next hadd => exact State.moves_addCredits hadd
    · exact .refl
  · exact .refl

theorem moves_execSlotHold (h : execSlotHold s = .next u) : s.Moves u := by
  refine moves_serveNow (fun b t => moves_withSlot fun i => ?_) h
  split
  · next hhold => exact State.moves_hold? hhold
  · exact .refl

theorem moves_execSlotResume (h : execSlotResume s = .next u) : s.Moves u := by
  refine moves_serve (fun {r t u} hu => ?_) h
  have hrefl : t.Moves t := .refl
  have hwithdraw (i : SlotIx) : t.Moves (t.updSlot i fun x => { x with holdRequested := false }) :=
    .of_move (.holdFlag (i := i) false) (t.view_updSlot i _)
  split at hu
  · exact hrefl.answered hu
  · split at hu
    · next hi =>
      have hturn := State.moves_turn hi (.inl rfl) (st' := .armed) rfl
      exact State.Moves.answered (hturn.trans (State.moves_evaluate _ _)) hu
    · split at hu
      · exact (hwithdraw _).answered hu
      · exact hrefl.answered hu
    · split at hu
      · exact (hwithdraw _).answered hu
      · exact hrefl.answered hu
    · next hi =>
      split at hu
      · next hres => exact (State.moves_resumeFaulted hi hres).answered hu
      · exact hrefl.answered hu
      · cases hu
    · exact hrefl.answered hu

theorem moves_execSlotCancel (h : execSlotCancel s = .next u) : s.Moves u := by
  refine moves_serve (fun {r t u} hu => ?_) h
  have hrefl : t.Moves t := .refl
  split at hu
  · exact hrefl.answered hu
  · split at hu
    · exact hrefl.answered hu
    · cases hu
      exact .of_view_eq rfl
    · next i _ _ _ hactive =>
      have hfree : (t.slot i).isActive = true → t.view.Free := by
        intro hi
        unfold Slot.isActive at hi
        split at hi
        · next l hl => exact absurd hl (hactive l)
        · cases hi
      exact (State.moves_cancelAtOnce hfree).answered hu

/-! ## The other requests -/

/-- A request row whose owner the view does not see. -/
theorem moves_unseenRow {k : ReqKind} {owner : List Byte → State → State × Reply} (howner : ∀ b (t : State), (owner b t).1.view = t.view)
    (h : s.serveNow k owner = .next u) : s.Moves u := moves_serveNow (fun b t => .of_view_eq (howner b t)) h

theorem State.view_startBlock (s : State) (r : Request) (o : AskOrder) : (s.startBlock r o).view = s.view :=
  State.view_eq (by simp [State.startBlock]) (by simp [State.startBlock]) (by simp [State.startBlock])

theorem moves_execBufWrite {o : AskOrder} (h : execBufWrite o s = .next u) : s.Moves u := by
  refine moves_serve (fun {r t u} hu => ?_) h
  split at hu <;> cases hu
  · exact .of_view_eq (t.view_startBlock r o)
  · exact .of_view_eq rfl

theorem moves_execBufRead {o : AskOrder} (h : execBufRead o s = .next u) : s.Moves u := by
  refine moves_serve (fun {r t u} hu => ?_) h
  split at hu
  · split at hu <;> cases hu
    · exact .of_view_eq (t.view_startBlock r o)
    · exact .of_view_eq rfl
  · cases hu
    exact .of_view_eq rfl

theorem State.view_runBlock (s : State) (r : Request) : (s.runBlock r).view = s.view := by
  have hwrite : (s.runWriteBlock r).view = s.view := by
    unfold State.runWriteBlock
    split
    · rfl
    · rw [State.view_answer, State.writeWords_frame]
      rfl
  have hread : (s.runReadBlock r).view = s.view := by
    unfold State.runReadBlock
    dsimp only
    split
    · rfl
    · split <;> rfl
  unfold State.runBlock
  split
  · exact hwrite
  · exact hread

theorem moves_execHostBlockGrant (h : execHostBlockGrant s = .next u) : s.Moves u := by
  refine moves_whenRunning (fun t => ?_) h
  split
  · split
    · exact .of_view_eq (t.view_runBlock _)
    · exact .refl
  · exact .refl

theorem moves_execFenceSet (h : execFenceSet s = .next u) : s.Moves u :=
  moves_unseenRow (fun b t => by split <;> [rfl; (split <;> [rfl; exact State.view_eq (by simp) (by simp) (by simp)])]) h

theorem moves_execLinkStatus (h : execLinkStatus s = .next u) : s.Moves u :=
  moves_unseenRow (fun b t => by dsimp only; split <;> rfl) h

theorem moves_execEngineReset (h : execEngineReset s = .next u) : s.Moves u := by
  refine moves_serve (fun {r t u} hu => ?_) h
  split at hu <;> cases hu
  · exact .of_view_eq rfl
  · exact t.moves_engineReset r

/-- A change of a port and its signal (R132). -/
theorem State.moves_updPort_signal (s : State) (p : PortIx) (f : Port → Port) (was : Bool) :
    s.Moves ((s.updPort p f).signal p was) := State.moves_signal (s.updPort p f) p was

theorem moves_execPortSetup (h : execPortSetup s = .next u) : s.Moves u := by
  refine moves_serveNow (fun b t => ?_) h
  split
  · exact .refl
  · split
    · exact .refl
    · split
      · split
        · exact .refl
        · exact t.moves_updPort_signal _ _ _
      · exact .refl

theorem State.moves_arrive (s : State) (p : PortIx) (w : Word) : s.Moves (s.arrive p w) := by
  unfold State.arrive
  split
  · split
    · exact s.moves_updPort_signal _ _ _
    · unfold State.overruns
      exact .of_view_eq (by dsimp only; split <;> rfl)
  · exact .refl

theorem State.moves_takeWord (s : State) (p : PortIx) : s.Moves (s.takeWord p) := by
  unfold State.takeWord
  split
  · split
    · split
      · exact s.moves_updPort_signal _ _ _
      · unfold State.underruns
        exact .of_view_eq (by dsimp only; split <;> rfl)
    · exact .of_view_eq rfl
  · exact .refl

theorem moves_execTriggerEvent (h : execTriggerEvent s = .next u) : s.Moves u := by
  refine moves_whenRunning (fun t => ?_) h
  split
  · exact .refl
  · next e rest _ => exact State.moves_scan { t with events := rest } e

theorem moves_execHello (h : execHello s = .next u) : s.Moves u :=
  moves_unseenRow (fun _ _ => rfl) h

theorem moves_execFenceRead (h : execFenceRead s = .next u) : s.Moves u :=
  moves_unseenRow (fun b t => by split <;> rfl) h

theorem moves_execLegRead (h : execLegRead s = .next u) : s.Moves u :=
  moves_unseenRow (fun b t => by split <;> rfl) h

theorem moves_execTrigRead (h : execTrigRead s = .next u) : s.Moves u :=
  moves_unseenRow (fun b t => by split <;> rfl) h

theorem moves_execReportAck (h : execReportAck s = .next u) : s.Moves u :=
  moves_unseenRow (fun b t => by split <;> rfl) h

theorem moves_execReportReplay (h : execReportReplay s = .next u) : s.Moves u :=
  moves_unseenRow (fun b t => by split <;> rfl) h

theorem moves_execReportGate (h : execReportGate s = .next u) : s.Moves u :=
  moves_unseenRow (fun _ _ => rfl) h

theorem moves_execSlotQuery (h : execSlotQuery s = .next u) : s.Moves u :=
  moves_unseenRow (fun b t => by unfold withSlot; split <;> rfl) h

theorem moves_execTrigSet (h : execTrigSet s = .next u) : s.Moves u :=
  moves_unseenRow (fun b t => by split <;> [rfl; (split <;> rfl)]) h

theorem moves_execPortQuery (h : execPortQuery s = .next u) : s.Moves u :=
  moves_unseenRow (fun b t => by split <;> [rfl; (dsimp only; split <;> rfl)]) h

/-! ## The line, the transmitter and time -/

theorem State.view_choose (s : State) : s.choose.view = s.view := by
  unfold State.choose
  split
  · rfl
  · split <;> rfl

/-- A row that is not a request and that the view does not see. -/
theorem moves_unseen {f : State → State} (hf : ∀ t : State, (f t).view = t.view) (h : s.whenRunning f = .next u) : s.Moves u :=
  moves_whenRunning (fun t => .of_view_eq (hf t)) h

theorem State.moves_paceExpires (s : State) (i : SlotIx) : s.Moves (s.paceExpires i) := by
  unfold State.paceExpires
  split
  · next hi => exact (State.moves_turn hi (.inl rfl) rfl).trans (State.moves_evaluate _ _)
  · exact .refl

theorem State.moves_tick (s : State) : s.Moves s.tick :=
  .of_move .tick (State.view_ext (fun i => by simp [State.tick, State.slot]) rfl rfl fun _ => rfl)

/-- A receiver row that acts only in the receiver's state it names. -/
theorem State.view_deliverUnlessBreak (s : State) (b : Byte) : (s.deliverUnlessBreak b).view = s.view :=
  (s.onlyLink_deliverUnlessBreak b).view_eq

theorem moves_execFrameReceived {b : Byte} (h : execFrameReceived b s = .next u) : s.Moves u :=
  moves_unseen (fun t => by split <;> [exact t.view_deliverUnlessBreak b; rfl]) h

theorem moves_execLengthError {b : Byte} (h : execLengthError b s = .next u) : s.Moves u :=
  moves_unseen (fun t => by split <;> [exact t.view_deliverUnlessBreak b; rfl]) h

theorem moves_execGapTimeout (h : execGapTimeout s = .next u) : s.Moves u :=
  moves_unseen (fun t => by split <;> rfl) h

theorem moves_execLineBreak (h : execLineBreak s = .next u) : s.Moves u :=
  moves_unseen (fun t => by split <;> rfl) h

theorem moves_execTransmitReply (h : execTransmitReply s = .next u) : s.Moves u :=
  moves_unseen (fun t => by split <;> rfl) h

theorem moves_execTransmitReport (h : execTransmitReport s = .next u) : s.Moves u :=
  moves_unseen (fun t => by split <;> rfl) h

theorem moves_execLineHighAfterBreak (h : execLineHighAfterBreak s = .next u) : s.Moves u :=
  moves_unseen (fun t => (t.onlyLink_updLink _).view_eq) h

theorem moves_execFrameSent (h : execFrameSent s = .next u) : s.Moves u :=
  moves_unseen (fun t => by split <;> [exact State.view_choose _; rfl]) h

theorem moves_execByteDelivered {b : Byte} (h : execByteDelivered b s = .next u) : s.Moves u :=
  moves_unseen (fun t => t.view_deliverUnlessBreak b) h

theorem moves_execUpset {x : Upset} (h : execUpset x s = .next u) : s.Moves u := by
  unfold execUpset at h
  split at h <;> cases h
  · exact .of_view_eq rfl
  · exact .of_view_eq rfl

/-! ## Every command and every step -/

theorem exec_moves {c : Instr} (h : exec c s = .next u) : s.Moves u ∨ s.Loads u := by
  cases c with
  | legLoad =>
    rcases execLegLoad_shows h with hview | hload
    · exact .inl (.of_view_eq hview)
    · exact .inr hload
  | powerReset =>
    cases h
    refine .inl (.of_move (.reset (fun _ => none) fun _ => .inr rfl) (State.view_ext (fun i => ?_) rfl rfl fun l => ?_))
    · simp [State.slot, State.reset]
    · simp [State.leg, State.reset, LegEntry.initial]
  | resetRelease straps => cases h; exact .inl (.of_view_eq (by split <;> rfl))
  | startUpEnd => cases h; exact .inl (.of_view_eq (by split <;> rfl))
  | upset x => exact .inl (moves_execUpset h)
  | frameReceived b => exact .inl (moves_execFrameReceived h)
  | lengthError b => exact .inl (moves_execLengthError h)
  | byteDelivered b => exact .inl (moves_execByteDelivered h)
  | gapTimeout => exact .inl (moves_execGapTimeout h)
  | lineBreak => exact .inl (moves_execLineBreak h)
  | lineHighAfterBreak => exact .inl (moves_execLineHighAfterBreak h)
  | transmitReply => exact .inl (moves_execTransmitReply h)
  | transmitReport => exact .inl (moves_execTransmitReport h)
  | frameSent => exact .inl (moves_execFrameSent h)
  | hello => exact .inl (moves_execHello h)
  | linkStatus => exact .inl (moves_execLinkStatus h)
  | engineReset => exact .inl (moves_execEngineReset h)
  | bufWrite o => exact .inl (moves_execBufWrite h)
  | bufRead o => exact .inl (moves_execBufRead h)
  | hostBlockGrant => exact .inl (moves_execHostBlockGrant h)
  | fenceSet => exact .inl (moves_execFenceSet h)
  | fenceRead => exact .inl (moves_execFenceRead h)
  | legRead => exact .inl (moves_execLegRead h)
  | legLink => exact .inl (moves_execLegLink h)
  | slotSetup => exact .inl (moves_execSlotSetup h)
  | slotArm => exact .inl (moves_execSlotArm h)
  | slotStart => exact .inl (moves_execSlotStart h)
  | slotHold => exact .inl (moves_execSlotHold h)
  | slotResume => exact .inl (moves_execSlotResume h)
  | slotCancel => exact .inl (moves_execSlotCancel h)
  | slotQuery => exact .inl (moves_execSlotQuery h)
  | trigSet => exact .inl (moves_execTrigSet h)
  | trigRead => exact .inl (moves_execTrigRead h)
  | triggerEvent => exact .inl (moves_execTriggerEvent h)
  | portSetup => exact .inl (moves_execPortSetup h)
  | portQuery => exact .inl (moves_execPortQuery h)
  | wordArrival p w => exact .inl (moves_whenRunning (fun t => t.moves_arrive p w) h)
  | wordTake p => exact .inl (moves_whenRunning (fun t => t.moves_takeWord p) h)
  | reportAck => exact .inl (moves_execReportAck h)
  | reportReplay => exact .inl (moves_execReportReplay h)
  | reportGate => exact .inl (moves_execReportGate h)
  | element order => exact .inl (moves_execElement h)
  | paceExpiry i => exact .inl (moves_whenRunning (fun t => t.moves_paceExpires i) h)

/-- What a step can do to the slots, the arbiter and the leg records: a chain of moves, or the load of an unpinned leg. -/
theorem step_moves (h : step s = .next t) : s.Moves t ∨ s.Loads t := by
  unfold step at h
  split at h
  · cases h
    exact .inl s.moves_tick
  · next rest _ => exact exec_moves (s := { s with pending := rest }) h

end Sys2Proof.Machine
end

section
/-! # The laws of the slots, move by move (O56, O58)

Each law is stated for a view, where it is the law of the state by definition, and is kept by every move. The laws of ELEMENT, of
the credits and of REMAINING need to know in every state of a chain which slots stand in a burst: `View.BurstLaw`, the part of the
arbiter's law that no PRIORITY enters. -/

namespace Sys2Proof.Machine

variable {v w : View} {i j : SlotIx} {l : LegIx} {x y : Slot} {st : LegState} {record : LegIx → Option LegRecord}

/-- A law that every move keeps is kept by every chain of moves. -/
theorem View.Moves.keeps {P : View → Prop} (hP : ∀ {v w : View}, P v → v.Move w → P w) (h : v.Moves w) (hv : P v) : P w := by
  induction h with
  | refl => exact hv
  | tail _ hmove ih => exact hP ih hmove

/-- What holds of every other slot and of the new one holds of every slot after one is replaced. -/
theorem View.forall_set {P : SlotIx → Slot → Prop} (h : ∀ j, j ≠ i → P j (v.slots j)) (hy : P i y) (j : SlotIx) :
    P j ((v.set i y).slots j) := by
  by_cases hj : j = i
  · subst hj
    simpa [View.set] using hy
  · simpa [View.set, hj] using h j hj

/-! ## In a burst and outside -/

/-- The slot is in no burst. -/
def Slot.OutsideBurst (x : Slot) : Prop := x.isActive = false ∧ x.isSuspended = false

theorem Slot.isActive_of_standing (h : x.standing = .inLeg l .active) : x.isActive = true := by simp [Slot.isActive, h]

theorem Slot.isSuspended_of_active (h : x.standing = .inLeg l .active) : x.isSuspended = false := by simp [Slot.isSuspended, h]

theorem Slot.isSuspended_iff : x.isSuspended = true ↔ ∃ l, x.standing = .inLeg l .suspended := by
  unfold Slot.isSuspended
  split
  · next l hl => simp [hl]
  · next hne => simpa using hne

theorem Slot.isActive_tick (x : Slot) : x.tick.isActive = x.isActive := by
  unfold Slot.tick
  split
  · next hx => simp [Slot.isActive, hx]
  · rfl

theorem Slot.isSuspended_tick (x : Slot) : x.tick.isSuspended = x.isSuspended := by
  unfold Slot.tick
  split
  · next hx => simp [Slot.isSuspended, hx]
  · rfl

theorem Slot.outsideBurst_of_atRest (h : x.atRest = true) : x.OutsideBurst := by
  cases hx : x.standing <;> simp_all [Slot.atRest, Slot.OutsideBurst, Slot.isActive, Slot.isSuspended]

theorem Slot.outsideBurst_of_betweenBursts (hst : st.betweenBursts = true) (hx : x.standing = .inLeg l st) :
    x.OutsideBurst := by
  cases st <;> simp_all [LegState.betweenBursts, Slot.OutsideBurst, Slot.isActive, Slot.isSuspended]

theorem Slot.outsideBurst_of_faulted {f : FaultRecord} (hx : x.standing = .inLeg l (.faulted f)) : x.OutsideBurst := by
  simp [Slot.OutsideBurst, Slot.isActive, Slot.isSuspended, hx]

theorem Slot.outsideBurst_cancelled (x : Slot) : x.cancelled.OutsideBurst := ⟨rfl, rfl⟩

theorem Slot.outsideBurst_cancelledFrom (x : Slot) (snap : Option Snapshot) : (x.cancelledFrom snap).OutsideBurst := by
  cases snap <;> exact Slot.outsideBurst_cancelled _

theorem LegEnded.outsideBurst (h : LegEnded record l x y) : y.OutsideBurst := by
  cases h with
  | done => exact ⟨rfl, rfl⟩
  | faulted => exact Slot.outsideBurst_of_faulted rfl
  | enters n rn st hold _ hst => exact Slot.outsideBurst_of_betweenBursts hst rfl

theorem BurstEnded.outsideBurst (h : BurstEnded record l x y) : y.OutsideBurst := by
  cases h with
  | goesOn st hold _ hst => exact Slot.outsideBurst_of_betweenBursts hst rfl
  | legEnds _ _ hend => exact hend.outsideBurst

/-- An ACTIVE slot is the one the mover serves, and a SUSPENDED one is on the stack. -/
structure InPlace (mover : Mover) (stack : List Suspended) (i : SlotIx) (x : Slot) : Prop where
  active : x.isActive = true → ∃ snap, mover = .busy i snap
  suspended : x.isSuspended = true ↔ i ∈ stack.map (·.slot)

theorem InPlace.congr {mover : Mover} {stack : List Suspended} (h : InPlace mover stack i x) (hactive : y.isActive = x.isActive)
    (hsuspended : y.isSuspended = x.isSuspended) : InPlace mover stack i y :=
  ⟨fun hy => h.active (hactive ▸ hy), hsuspended ▸ h.suspended⟩

/-- A slot outside a burst is in its place wherever the mover is. -/
theorem Slot.OutsideBurst.inPlace (hx : x.OutsideBurst) (mover : Mover) {stack : List Suspended}
    (h : i ∉ stack.map (·.slot)) : InPlace mover stack i x :=
  ⟨fun hactive => absurd hactive (by simp [hx.1]), iff_of_false (by simp [hx.2]) h⟩

/-- The ACTIVE slot is the one the mover serves, and the SUSPENDED slots are those on the stack, each once and at most three. -/
structure View.BurstLaw (v : View) : Prop where
  places : ∀ i, InPlace v.mover v.stack i (v.slots i)
  nodup : (v.stack.map (·.slot)).Nodup
  depth : v.stack.length ≤ 3

namespace View.BurstLaw

/-- While the mover serves no slot, none is ACTIVE. -/
theorem not_active (h : v.BurstLaw) (hfree : v.Free) (i : SlotIx) : (v.slots i).isActive = false := by
  by_contra hi
  obtain ⟨snap, hmover⟩ := (h.places i).active (by simpa using hi)
  exact hfree i snap hmover

/-- While the mover serves slot i, no other slot is ACTIVE. -/
theorem not_active_of_ne (h : v.BurstLaw) {snap : Snapshot} (hmover : v.mover = .busy i snap) (hj : j ≠ i) :
    (v.slots j).isActive = false := by
  by_contra hactive
  obtain ⟨snap', hmover'⟩ := (h.places j).active (by simpa using hactive)
  simp only [hmover, Mover.busy.injEq] at hmover'
  exact hj hmover'.1.symm

/-- A slot that is not SUSPENDED is not on the stack. -/
theorem not_mem (h : v.BurstLaw) (hi : (v.slots i).isSuspended = false) : i ∉ v.stack.map (·.slot) := fun hmem => by
  simpa [hi] using (h.places i).suspended.mpr hmem

/-- A slot that is not ACTIVE stays in its place when the mover turns to another. -/
theorem inPlace_of_not_active (h : v.BurstLaw) (hj : (v.slots j).isActive = false) (mover : Mover) :
    InPlace mover v.stack j (v.slots j) :=
  ⟨fun hactive => absurd hactive (by simp [hj]), (h.places j).suspended⟩

/-- A slot that stays in its burst, or stays outside one. -/
theorem set (h : v.BurstLaw) (hactive : y.isActive = (v.slots i).isActive) (hsuspended : y.isSuspended = (v.slots i).isSuspended) :
    (v.set i y).BurstLaw where
  places := View.forall_set (fun j _ => h.places j) ((h.places i).congr hactive hsuspended)
  nodup := h.nodup
  depth := h.depth

theorem set_standing (h : v.BurstLaw) (hy : y.standing = (v.slots i).standing) : (v.set i y).BurstLaw :=
  h.set (by simp [Slot.isActive, hy]) (by simp [Slot.isSuspended, hy])

theorem set_outside (h : v.BurstLaw) (hx : (v.slots i).OutsideBurst) (hy : y.OutsideBurst) : (v.set i y).BurstLaw :=
  h.set (hy.1.trans hx.1.symm) (hy.2.trans hx.2.symm)

/-- The ACTIVE slot leaves its burst, and the mover stands at its release. -/
theorem set_released (h : v.BurstLaw) {snap : Snapshot} (hmover : v.mover = .busy i snap)
    (hi : (v.slots i).standing = .inLeg l .active) (hy : y.OutsideBurst) (m : Mover) :
    View.BurstLaw { v.set i y with mover := m } where
  places := View.forall_set (fun _ hj => h.inPlace_of_not_active (h.not_active_of_ne hmover hj) m)
    (hy.inPlace m (h.not_mem (Slot.isSuspended_of_active hi)))
  nodup := h.nodup
  depth := h.depth

theorem suspend (h : v.BurstLaw) {snap : Snapshot} (hi : (v.slots i).standing = .inLeg l .active)
    (hmover : v.mover = .busy i snap) (hdepth : v.stack.length < 3) :
    View.BurstLaw
      { v.set i { v.slots i with standing := .inLeg l .suspended } with
        stack := { slot := i, snapshot := snap } :: v.stack, mover := .idle } where
  places := View.forall_set
    (fun j hj =>
      have hplace := h.inPlace_of_not_active (h.not_active_of_ne hmover hj) .idle
      ⟨hplace.active, hplace.suspended.trans (by simp [hj])⟩)
    ⟨by simp [Slot.isActive], by simp [Slot.isSuspended]⟩
  nodup := List.nodup_cons.mpr ⟨h.not_mem (Slot.isSuspended_of_active hi), h.nodup⟩
  depth := hdepth

theorem grant (h : v.BurstLaw) (hi : (v.slots i).standing = .inLeg l .ready) (hfree : v.Free) :
    View.BurstLaw { v.set i ((v.slots i).burstStart l).1 with mover := .busy i ((v.slots i).burstStart l).2 } where
  places := View.forall_set (fun j _ => h.inPlace_of_not_active (h.not_active hfree j) _)
    ⟨fun _ => ⟨_, rfl⟩, iff_of_false (by simp [Slot.isSuspended_of_active (Slot.burstStart_standing _ _)])
      (h.not_mem (Slot.outsideBurst_of_betweenBursts (st := .ready) rfl hi).2)⟩
  nodup := h.nodup
  depth := h.depth

theorem pop (h : v.BurstLaw) {top : Suspended} {rest : List Suspended} (hstack : v.stack = top :: rest) (hfree : v.Free) :
    View.BurstLaw
      { v.set top.slot { v.slots top.slot with standing := .inLeg l .active } with
        stack := rest, mover := .busy top.slot top.snapshot } := by
  obtain ⟨hplaces, hnodup, hdepth⟩ := h
  have hidle := View.BurstLaw.not_active ⟨hplaces, hnodup, hdepth⟩ hfree
  rw [hstack] at hnodup hdepth
  obtain ⟨hnew, hrest⟩ := List.nodup_cons.mp hnodup
  refine ⟨View.forall_set (fun j hj => ⟨by simp [hidle], ?_⟩) ⟨fun _ => ⟨_, rfl⟩, ?_⟩, hrest, Nat.le_of_succ_le hdepth⟩
  · exact (hplaces j).suspended.trans (by simp [hstack, hj])
  · exact iff_of_false (by simp [Slot.isSuspended]) hnew

theorem cancelSuspended (h : v.BurstLaw) (hy : y.OutsideBurst) :
    View.BurstLaw { v.set i y with stack := v.stack.filter fun e => decide (e.slot ≠ i) } where
  places := View.forall_set
    (fun j hj => ⟨(h.places j).active, (h.places j).suspended.trans (by simp only [List.mem_map, List.mem_filter]; aesop)⟩)
    (hy.inPlace _ (by simp))
  nodup := h.nodup.sublist (List.filter_sublist.map _)
  depth := (List.length_filter_le _ _).trans h.depth

/-- The slot of a stack entry is SUSPENDED. -/
theorem suspended_of_mem (h : v.BurstLaw) {e : Suspended} (he : e ∈ v.stack) : (v.slots e.slot).isSuspended = true :=
  (h.places e.slot).suspended.mpr (List.mem_map_of_mem he)

/-- A slot that is cancelled where it stands is in no burst. -/
theorem outside_of_cancel (h : v.BurstLaw) (hi : (v.slots i).isSuspended = false)
    (hfree : (v.slots i).isActive = true → v.Free) : (v.slots i).OutsideBurst := by
  refine ⟨?_, hi⟩
  by_contra hactive
  exact hactive (h.not_active (hfree (by simpa using hactive)) i)

/-- Every move keeps the law. -/
theorem move (h : v.BurstLaw) (hmove : v.Move w) : w.BurstLaw := by
  cases hmove with
  | setup u _ _ => exact h.set_standing rfl
  | arm hrest _ _ =>
    exact h.set_outside (Slot.outsideBurst_of_atRest hrest) (Slot.outsideBurst_of_betweenBursts (st := .armed) rfl rfl)
  | holdFlag hold => exact h.set_standing rfl
  | credit n _ => exact h.set_standing rfl
  | turn st' hi hst hst' =>
    refine h.set_outside ?_ (Slot.outsideBurst_of_betweenBursts hst' rfl)
    rcases hst with hst | ⟨f, rfl, -⟩
    · exact Slot.outsideBurst_of_betweenBursts hst hi
    · exact Slot.outsideBurst_of_faulted hi
  | element src dst digest element hi => exact h.set_standing rfl
  | suspend hi hmover hdepth => exact h.suspend hi hmover hdepth
  | grant hi hfree => exact h.grant hi hfree
  | pop hstack _ hfree => exact h.pop hstack hfree
  | drop hstack hi _ =>
    obtain ⟨l, hl⟩ := Slot.isSuspended_iff.mp (h.suspended_of_mem (hstack ▸ List.mem_cons_self))
    exact absurd hl (hi l .suspended)
  | mover m hfree _ => exact ⟨fun i => h.inPlace_of_not_active (h.not_active hfree i) m, h.nodup, h.depth⟩
  | commit r hmover hi hend => exact h.set_released hmover hi hend.outsideBurst _
  | fail cause element hmover hi _ => exact h.set_released hmover hi (Slot.outsideBurst_of_faulted rfl) _
  | cancelActive hmover hi => exact h.set_released hmover hi (Slot.outsideBurst_cancelled _) _
  | cancel hi hfree => exact h.set_outside (h.outside_of_cancel hi hfree) (Slot.outsideBurst_cancelled _)
  | cancelSuspended hi => exact h.cancelSuspended (Slot.outsideBurst_cancelledFrom _ _)
  | resume hi _ _ hend => exact h.set_outside (Slot.outsideBurst_of_faulted hi) hend.outsideBurst
  | link n _ => exact ⟨h.places, h.nodup, h.depth⟩
  | tick => exact ⟨fun i => (h.places i).congr (Slot.isActive_tick _) (Slot.isSuspended_tick _), h.nodup, h.depth⟩
  | reset record _ =>
    exact ⟨fun i => Slot.OutsideBurst.inPlace ⟨rfl, rfl⟩ _ (by simp), by simp, by simp⟩

end View.BurstLaw

/-! ## The binding law (R25) -/

theorem Slot.boundTo_iff {p : PortIx} : x.boundTo p = true ↔ x.standing ≠ .idle ∧ x.setup.port = some p := by
  simp [Slot.boundTo, Slot.outsideIdle]

/-- No two slots outside IDLE are bound to the same port. -/
def View.BindingLaw (v : View) : Prop :=
  ∀ i j : SlotIx, ∀ p : PortIx, (v.slots i).boundTo p = true → (v.slots j).boundTo p = true → i = j

/-- A slot may be replaced by one that takes no port another slot holds. -/
theorem View.BindingLaw.set (h : v.BindingLaw) (hy : ∀ p, y.boundTo p = true → ∀ j, j ≠ i → (v.slots j).boundTo p = false) :
    (v.set i y).BindingLaw := by
  intro j k p hj hk
  by_cases hji : j = i <;> by_cases hki : k = i
  · exact hji.trans hki.symm
  · subst hji
    rw [View.set_slots_ne hki, hy p (by simpa using hj) k hki] at hk
    cases hk
  · subst hki
    rw [View.set_slots_ne hji, hy p (by simpa using hk) j hji] at hj
    cases hj
  · rw [View.set_slots_ne hji] at hj
    rw [View.set_slots_ne hki] at hk
    exact h j k p hj hk

/-- A slot may be replaced by one that is bound to no port but its own. -/
theorem View.BindingLaw.set_bound (h : v.BindingLaw) (hy : ∀ p, y.boundTo p = true → (v.slots i).boundTo p = true) :
    (v.set i y).BindingLaw := by
  refine h.set fun p hp j hj => ?_
  by_contra hjp
  exact hj (h j i p (by simpa using hjp) (hy p hp))

/-- A slot outside IDLE may be replaced by one with its PORT. -/
theorem View.BindingLaw.set_setup (h : v.BindingLaw) (hx : (v.slots i).standing ≠ .idle) (hy : y.setup = (v.slots i).setup) :
    (v.set i y).BindingLaw :=
  h.set_bound fun _ hp => Slot.boundTo_iff.mpr ⟨hx, hy ▸ (Slot.boundTo_iff.mp hp).2⟩

/-- An IDLE slot is bound to no port. -/
theorem Slot.not_boundTo_of_idle (h : x.standing = .idle) (p : PortIx) : ¬ x.boundTo p = true := fun hp =>
  (Slot.boundTo_iff.mp hp).1 h

theorem Slot.standing_cancelledFrom (x : Slot) (snap : Option Snapshot) : (x.cancelledFrom snap).standing = .idle := by
  cases snap <;> rfl

theorem Slot.boundTo_tick (x : Slot) (p : PortIx) : x.tick.boundTo p = x.boundTo p := by
  unfold Slot.tick
  split
  · next hx => simp [Slot.boundTo, Slot.outsideIdle, hx]
  · rfl

theorem Slot.burstStart_setup (x : Slot) (l : LegIx) : (x.burstStart l).1.setup = x.setup := by
  unfold Slot.burstStart
  dsimp only
  repeat' split
  all_goals rfl

theorem LegEnded.setup (h : LegEnded record l x y) : y.setup = x.setup := by cases h <;> rfl

theorem BurstEnded.setup (h : BurstEnded record l x y) : y.setup = x.setup := by
  cases h with
  | goesOn => rfl
  | legEnds _ _ hend => exact hend.setup

/-- Every move keeps the binding law: SLOT-SETUP and an arm take no port that another slot holds, and no other move binds a slot. -/
theorem View.BindingLaw.move (h : v.BindingLaw) (hmove : v.Move w) : w.BindingLaw := by
  have hin {i l st} (hi : (v.slots i).standing = .inLeg l st) : (v.slots i).standing ≠ .idle := by simp [hi]
  cases hmove with
  | setup u _ hport => exact h.set fun p hp j hj => hport p (Slot.boundTo_iff.mp hp).2 j hj
  | arm _ hport _ => exact h.set fun p hp j hj => hport p (Slot.boundTo_iff.mp hp).2 j hj
  | holdFlag hold => exact h.set_bound fun _ hp => hp
  | credit n _ => exact h.set_bound fun _ hp => hp
  | turn st' hi _ _ => exact h.set_setup (hin hi) rfl
  | element src dst digest element hi => exact h.set_setup (hin hi) rfl
  | suspend hi _ _ => exact h.set_setup (hin hi) rfl
  | grant hi _ => exact h.set_setup (hin hi) (Slot.burstStart_setup _ _)
  | pop _ hi _ => exact h.set_setup (hin hi) rfl
  | drop _ _ _ => exact h
  | mover m _ _ => exact h
  | commit r _ hi hend => exact h.set_setup (hin hi) hend.setup
  | fail cause element _ hi _ => exact h.set_setup (hin hi) rfl
  | cancelActive _ hi => exact h.set_setup (hin hi) rfl
  | cancel _ _ => exact h.set fun p hp => absurd hp (Slot.not_boundTo_of_idle rfl p)
  | cancelSuspended _ =>
    exact View.BindingLaw.set h fun p hp => absurd hp (Slot.not_boundTo_of_idle (Slot.standing_cancelledFrom _ _) p)
  | resume hi _ _ hend => exact h.set_setup (hin hi) hend.setup
  | link n _ => exact h
  | tick => exact fun i j p hi hj => h i j p (Slot.boundTo_tick _ p ▸ hi) (Slot.boundTo_tick _ p ▸ hj)
  | reset record _ => exact fun i j p hp => absurd hp (Slot.not_boundTo_of_idle rfl p)

/-! ## The law of the fault record (R90) -/

/-- A fault record has its slot's leg and REMAINING, and element index 0 at LEG-END. -/
def FaultOk (x : Slot) : Prop :=
  ∀ f ∈ x.faultRecord,
    x.currentLeg = some f.leg ∧ f.remaining = x.remaining ∧ (f.cause.resumePoint = .legEnd → f.element = 0)

theorem FaultOk.congr (hx : FaultOk x) (hstanding : y.standing = x.standing) (hremaining : y.remaining = x.remaining) :
    FaultOk y := by
  simpa [FaultOk, Slot.faultRecord, Slot.currentLeg, hstanding, hremaining] using hx

theorem Slot.faultRecord_eq_some {f : FaultRecord} : x.faultRecord = some f ↔ ∃ l, x.standing = .inLeg l (.faulted f) := by
  unfold Slot.faultRecord
  split
  · next l g hg => simp [hg, eq_comm]
  · next hne => simpa using fun l hl => hne l f hl

/-- A slot that is not FAULTED has no fault record. -/
theorem FaultOk.of_not_faulted (h : ∀ l f, x.standing ≠ .inLeg l (.faulted f)) : FaultOk x := fun f hf => by
  obtain ⟨l, hl⟩ := Slot.faultRecord_eq_some.mp hf
  exact absurd hl (h l f)

theorem FaultOk.of_betweenBursts (hst : st.betweenBursts = true) (hx : x.standing = .inLeg l st) : FaultOk x := by
  refine .of_not_faulted fun m f hf => ?_
  obtain ⟨-, rfl⟩ := Standing.inLeg.inj (hx.symm.trans hf)
  cases hst

/-- A slot that has just entered FAULTED (R92). -/
theorem FaultOk.of_entry {c : FaultCause} {e : Nat}
    (hx : x.standing = .inLeg l (.faulted { cause := c, leg := l, remaining := x.remaining, element := e }))
    (he : c.resumePoint = .legEnd → e = 0) : FaultOk x := by
  intro f hf
  obtain ⟨m, hm⟩ := Slot.faultRecord_eq_some.mp hf
  obtain ⟨rfl, hf⟩ := Standing.inLeg.inj (hx.symm.trans hm)
  obtain rfl := LegState.faulted.inj hf
  exact ⟨Slot.currentLeg_of_standing hx, rfl, he⟩

theorem FaultOk.tick (hx : FaultOk x) : FaultOk x.tick := by
  unfold Slot.tick
  split
  · exact .of_not_faulted fun _ _ => by simp
  · exact hx

theorem LegEnded.faultOk (h : LegEnded record l x y) : FaultOk y := by
  cases h with
  | done => exact .of_not_faulted fun _ _ => by simp
  | faulted cause _ => exact .of_entry rfl fun _ => rfl
  | enters n rn st hold _ hst => exact .of_betweenBursts hst rfl

theorem BurstEnded.faultOk (h : BurstEnded record l x y) : FaultOk y := by
  cases h with
  | goesOn st hold _ hst => exact .of_betweenBursts hst rfl
  | legEnds _ _ hend => exact hend.faultOk

/-- Every move keeps the law of the fault record: a slot enters FAULTED with its leg and REMAINING, and keeps both while it stays there. -/
theorem View.faultLaw_move (h : ∀ i, FaultOk (v.slots i)) (hmove : v.Move w) : ∀ i, FaultOk (w.slots i) := by
  have hset {i : SlotIx} {y : Slot} (hy : FaultOk y) (j : SlotIx) : FaultOk ((v.set i y).slots j) :=
    View.forall_set (P := fun _ => FaultOk) (fun j _ => h j) hy j
  have hidle {x : Slot} (hx : x.standing = .idle) : FaultOk x := .of_not_faulted fun _ _ => by simp [hx]
  cases hmove with
  | setup u _ _ => exact hset ((h _).congr rfl rfl)
  | arm _ _ _ => exact hset (.of_betweenBursts (st := .armed) rfl rfl)
  | holdFlag hold => exact hset ((h _).congr rfl rfl)
  | credit n _ => exact hset ((h _).congr rfl rfl)
  | turn st' _ _ hst' => exact hset (.of_betweenBursts hst' rfl)
  | element src dst digest element hi => exact hset ((h _).congr rfl rfl)
  | suspend _ _ _ => exact hset (.of_not_faulted fun _ _ => by simp)
  | grant _ _ => exact hset (.of_not_faulted fun _ _ => by simp [Slot.burstStart_standing])
  | pop _ _ _ => exact hset (.of_not_faulted fun _ _ => by simp)
  | drop _ _ _ => exact h
  | mover m _ _ => exact h
  | commit r _ _ hend => exact hset hend.faultOk
  | fail cause element _ _ hcause => exact hset (.of_entry rfl fun hlegEnd => by simp [hcause] at hlegEnd)
  | cancelActive _ _ => exact hset (hidle rfl)
  | cancel _ _ => exact hset (hidle rfl)
  | cancelSuspended _ => exact hset (hidle (Slot.standing_cancelledFrom _ _))
  | resume _ _ _ hend => exact hset hend.faultOk
  | link n _ => exact h
  | tick => exact fun i => (h i).tick
  | reset record _ => exact fun _ => hidle rfl

end Sys2Proof.Machine

namespace Sys2Proof

open Machine

/-- Settles O56: both laws speak of the slots alone, and every move keeps them. -/
theorem bindingAndFaultLawsKept : Obligations.BindingAndFaultLawsKept := by
  intro s t hstep
  rcases step_moves hstep with hmoves | ⟨l, r, -, hview⟩
  · exact ⟨fun h => View.Moves.keeps (P := View.BindingLaw) View.BindingLaw.move hmoves h,
      fun h => View.Moves.keeps (P := fun v => ∀ i, FaultOk (v.slots i)) View.faultLaw_move hmoves h⟩
  · have hslots : t.slot = s.slot := congrArg View.slots hview
    simp only [BindingLaw, FaultLaw, hslots]
    exact ⟨id, id⟩

end Sys2Proof
end

section
/-! # ELEMENT, the credits and REMAINING, move by move (O58) -/

namespace Sys2Proof.Machine

variable {v w : View} {i j : SlotIx} {l : LegIx} {x y : Slot} {st : LegState} {record : LegIx → Option LegRecord}

/-! ## ELEMENT (R26) -/

/-- A slot in no burst has ELEMENT 0. -/
def ElementOk (x : Slot) : Prop := x.isActive = false → x.isSuspended = false → x.element = 0

theorem ElementOk.of_zero (h : x.element = 0) : ElementOk x := fun _ _ => h

theorem ElementOk.of_active (h : x.standing = .inLeg l .active) : ElementOk x := fun hactive _ => by
  simp [Slot.isActive_of_standing h] at hactive

theorem ElementOk.of_suspended (h : x.standing = .inLeg l .suspended) : ElementOk x := fun _ hsuspended => by
  simp [Slot.isSuspended, h] at hsuspended

theorem ElementOk.zero (h : ElementOk x) (hx : x.OutsideBurst) : x.element = 0 := h hx.1 hx.2

theorem ElementOk.congr (hx : ElementOk x) (hstanding : y.standing = x.standing) (helement : y.element = x.element) :
    ElementOk y := by
  simpa [ElementOk, Slot.isActive, Slot.isSuspended, hstanding, helement] using hx

theorem ElementOk.tick (hx : ElementOk x) : ElementOk x.tick := by
  have helement : x.tick.element = x.element := by unfold Slot.tick; split <;> rfl
  simpa [ElementOk, Slot.isActive_tick, Slot.isSuspended_tick, helement] using hx

theorem LegEnded.element_zero (h : LegEnded record l x y) (hx : x.element = 0) : y.element = 0 := by
  cases h with
  | done => exact hx
  | faulted => exact hx
  | enters => rfl

theorem BurstEnded.element_zero (h : BurstEnded record l x y) (hx : x.element = 0) : y.element = 0 := by
  cases h with
  | goesOn => exact hx
  | legEnds _ _ hend => exact hend.element_zero hx

/-- A SUSPENDED slot has its snapshot on the stack. -/
theorem View.BurstLaw.stackSnapshot (h : v.BurstLaw) (hi : (v.slots i).isSuspended = true) :
    ∃ snap, v.stackSnapshot i = some snap := by
  obtain ⟨e, he, hei⟩ := List.mem_map.mp ((h.places i).suspended.mp hi)
  cases hfind : v.stack.find? fun e => decide (e.slot = i) with
  | none => simpa [hei] using List.find?_eq_none.mp hfind e he
  | some e => exact ⟨e.snapshot, by simp [View.stackSnapshot, hfind]⟩

/-- Every move keeps ELEMENT 0 outside a burst: what ends a burst sets it to 0. -/
theorem View.elementLaw_move (hburst : v.BurstLaw) (h : ∀ i, ElementOk (v.slots i)) (hmove : v.Move w) :
    ∀ i, ElementOk (w.slots i) := by
  have hset {i : SlotIx} {y : Slot} (hy : ElementOk y) : ∀ j, ElementOk ((v.set i y).slots j) :=
    View.forall_set (P := fun _ => ElementOk) (fun j _ => h j) hy
  cases hmove with
  | setup u _ _ => exact hset ((h _).congr rfl rfl)
  | arm _ _ _ => exact hset (.of_zero rfl)
  | holdFlag hold => exact hset ((h _).congr rfl rfl)
  | credit n _ => exact hset ((h _).congr rfl rfl)
  | turn st' hi hst _ =>
    refine hset (.of_zero ((h _).zero ?_))
    rcases hst with hst | ⟨f, rfl, -⟩
    · exact Slot.outsideBurst_of_betweenBursts hst hi
    · exact Slot.outsideBurst_of_faulted hi
  | element src dst digest element hi => exact hset (.of_active hi)
  | suspend _ _ _ => exact hset (.of_suspended rfl)
  | grant _ _ => exact hset (.of_active (Slot.burstStart_standing _ _))
  | pop _ _ _ => exact hset (.of_active rfl)
  | drop _ _ _ => exact h
  | mover m _ _ => exact h
  | commit r _ _ hend => exact hset (.of_zero (hend.element_zero rfl))
  | fail cause element _ _ _ => exact hset (.of_zero rfl)
  | cancelActive _ _ => exact hset (.of_zero rfl)
  | cancel hi hfree => exact hset (.of_zero ((h _).zero (hburst.outside_of_cancel hi hfree)))
  | cancelSuspended hi =>
    obtain ⟨snap, hsnap⟩ := hburst.stackSnapshot hi
    exact hset (.of_zero (by rw [hsnap]; rfl))
  | resume hi _ _ hend => exact hset (.of_zero (hend.element_zero ((h _).zero (Slot.outsideBurst_of_faulted hi))))
  | link n _ => exact h
  | tick => exact fun i => (h i).tick
  | reset record _ => exact fun _ => .of_zero rfl

/-! ## The credits (R33) -/

/-- The credit that a mover's burst has used of a slot. -/
def Mover.creditUsed (m : Mover) (i : SlotIx) : Nat :=
  match m with
  | .busy j snap => if j = i ∧ snap.creditUsed = true then 1 else 0
  | _ => 0

/-- The credits that the bursts on a stack have used of a slot. -/
def creditsOnStack (stack : List Suspended) (i : SlotIx) : Nat :=
  (stack.filter fun e => decide (e.slot = i) && e.snapshot.creditUsed).length

theorem View.outstanding_eq (v : View) (i : SlotIx) : v.outstanding i = v.mover.creditUsed i + creditsOnStack v.stack i := rfl

theorem Mover.creditUsed_free (h : v.Free) (i : SlotIx) : v.mover.creditUsed i = 0 := by
  unfold Mover.creditUsed
  split
  · next j snap hmover => exact absurd hmover (h j snap)
  · rfl

theorem Mover.creditUsed_busy (i j : SlotIx) (snap : Snapshot) :
    (Mover.busy j snap).creditUsed i = if j = i ∧ snap.creditUsed = true then 1 else 0 := rfl

theorem Mover.creditUsed_idle (i : SlotIx) : Mover.idle.creditUsed i = 0 := rfl

theorem Mover.creditUsed_busy_same (i : SlotIx) (snap : Snapshot) :
    (Mover.busy i snap).creditUsed i = if snap.creditUsed = true then 1 else 0 := by simp [Mover.creditUsed]

theorem Mover.creditUsed_busy_ne (h : j ≠ i) (snap : Snapshot) : (Mover.busy i snap).creditUsed j = 0 := by
  simp [Mover.creditUsed, Ne.symm h]

/-- A burst on the stack counts as it counted in the mover. -/
theorem creditsOnStack_cons (e : Suspended) (stack : List Suspended) (i : SlotIx) :
    creditsOnStack (e :: stack) i = (Mover.busy e.slot e.snapshot).creditUsed i + creditsOnStack stack i := by
  rw [Mover.creditUsed_busy]
  unfold creditsOnStack
  by_cases h : e.slot = i ∧ e.snapshot.creditUsed = true
  · rw [List.filter_cons_of_pos (by simpa using h), List.length_cons, if_pos h, Nat.add_comm]
  · rw [List.filter_cons_of_neg (by simpa using h), if_neg h, Nat.zero_add]

theorem creditsOnStack_filter_le (p : Suspended → Bool) (stack : List Suspended) (i : SlotIx) :
    creditsOnStack (stack.filter p) i ≤ creditsOnStack stack i :=
  (List.filter_sublist.filter _).length_le

theorem creditsOnStack_le (stack : List Suspended) (i : SlotIx) : creditsOnStack stack i ≤ stack.length :=
  List.length_filter_le _ _

/-- CREDITS with the outstanding credit are at most 15. -/
def CreditOk (mover : Mover) (stack : List Suspended) (i : SlotIx) (x : Slot) : Prop :=
  x.credits + (mover.creditUsed i + creditsOnStack stack i) ≤ 15

theorem LegEnded.credits_le (h : LegEnded record l x y) : y.credits ≤ x.credits := by
  cases h with
  | done => exact Nat.zero_le _
  | faulted => exact le_refl _
  | enters => exact le_refl _

theorem BurstEnded.credits_le (h : BurstEnded record l x y) : y.credits ≤ x.credits := by
  cases h with
  | goesOn => exact le_refl _
  | legEnds _ _ hend => exact hend.credits_le

/-- A burst start uses at most the credit it takes, where the slot has one (R50). -/
theorem Slot.burstStart_credits (x : Slot) (l : LegIx) :
    (x.burstStart l).1.credits + (if (x.burstStart l).2.creditUsed = true then 1 else 0) ≤ max x.credits 1 := by
  unfold Slot.burstStart
  dsimp only
  repeat' split
  all_goals simp_all
  all_goals omega

/-- Every move keeps the credits within the limit: a credit in use comes back at most once, and a new one is given within the limit. -/
theorem View.creditLaw_move (hburst : v.BurstLaw) (h : ∀ i, CreditOk v.mover v.stack i (v.slots i)) (hmove : v.Move w) :
    ∀ i, CreditOk w.mover w.stack i (w.slots i) := by
  have hset {i : SlotIx} {y : Slot} (hy : y.credits ≤ (v.slots i).credits) :
      ∀ j, CreditOk v.mover v.stack j ((v.set i y).slots j) :=
    View.forall_set (fun j _ => h j) (Nat.le_trans (Nat.add_le_add_right hy _) (h i))
  have hreleased {i : SlotIx} {snap : Snapshot} {y : Slot} (hmover : v.mover = .busy i snap)
      (hy : y.credits ≤ (v.slots i).credits + if snap.creditUsed = true then 1 else 0) :
      ∀ j, CreditOk (.releasing 0 0) v.stack j ((v.set i y).slots j) := by
    refine View.forall_set (fun j hj => ?_) ?_
    · have := h j
      rw [hmover] at this
      simp only [CreditOk, Mover.creditUsed_busy_ne hj] at this
      exact this
    · have := h i
      rw [hmover] at this
      simp only [CreditOk, Mover.creditUsed_busy_same] at this
      simp only [CreditOk, Mover.creditUsed]
      omega
  cases hmove with
  | setup u _ _ => exact hset (le_refl _)
  | arm _ _ _ => exact hset (Nat.zero_le _)
  | holdFlag hold => exact hset (le_refl _)
  | credit n hcap =>
    refine View.forall_set (fun j _ => h j) ?_
    rw [View.outstanding_eq] at hcap
    simp only [CreditOk, View.set_mover, View.set_stack]
    omega
  | turn st' _ _ _ => exact hset (le_refl _)
  | element src dst digest element _ => exact hset (le_refl _)
  | @suspend i l snap _ hmover _ =>
    have hpush (j : SlotIx) := h j
    simp only [CreditOk, hmover] at hpush
    have hpushed : ∀ j, CreditOk .idle ({ slot := i, snapshot := snap } :: v.stack) j (v.slots j) := fun j => by
      simpa only [CreditOk, creditsOnStack_cons, Mover.creditUsed_idle, Nat.zero_add] using hpush j
    exact View.forall_set (fun j _ => hpushed j) (hpushed _)
  | @grant i l _ hfree =>
    refine View.forall_set (fun j hj => ?_) ?_
    · simpa [CreditOk, Mover.creditUsed_free hfree, Mover.creditUsed_busy_ne hj] using h j
    · have hstart := Slot.burstStart_credits (v.slots i) l
      have hlimit := h i
      have hstack := (creditsOnStack_le v.stack i).trans hburst.depth
      simp only [CreditOk, Mover.creditUsed_free hfree] at hlimit
      simp only [CreditOk, Mover.creditUsed_busy_same, View.set_stack]
      omega
  | pop hstack _ hfree =>
    have hpop (j : SlotIx) := h j
    simp only [CreditOk, Mover.creditUsed_free hfree, hstack, creditsOnStack_cons, Nat.zero_add] at hpop
    exact View.forall_set (P := CreditOk _ _) (fun j _ => hpop j) (hpop _)
  | drop hstack _ hfree =>
    intro i
    have hlimit := h i
    simp only [CreditOk, hstack, creditsOnStack_cons] at hlimit
    simp only [CreditOk, Mover.creditUsed]
    omega
  | mover m hfree hm =>
    intro i
    have hnew : m.creditUsed i = 0 := Mover.creditUsed_free (v := { v with mover := m }) hm i
    simpa [CreditOk, hnew, Mover.creditUsed_free hfree] using h i
  | commit r hmover _ hend => exact hreleased hmover (hend.credits_le.trans (Nat.le_add_right _ _))
  | fail cause element hmover _ _ =>
    refine hreleased hmover ?_
    simp only [Slot.rolledBack]
    split <;> simp
  | cancelActive hmover _ => exact hreleased hmover (Nat.zero_le _)
  | cancel _ _ => exact hset (Nat.zero_le _)
  | @cancelSuspended i _ =>
    have hfilter (j : SlotIx) := creditsOnStack_filter_le (fun e => decide (e.slot ≠ i)) v.stack j
    have hzero : ((v.slots i).cancelledFrom (v.stackSnapshot i)).credits = 0 := by cases v.stackSnapshot i <;> rfl
    refine View.forall_set (P := CreditOk _ _) (fun j _ => ?_) ?_
    · exact Nat.le_trans (Nat.add_le_add_left (Nat.add_le_add_left (hfilter j) _) _) (h j)
    · have hlimit := h i
      have := hfilter i
      simp only [CreditOk] at hlimit
      simp only [CreditOk, hzero, View.set_mover]
      omega
  | resume _ _ _ hend => exact hset hend.credits_le
  | link n _ => exact h
  | tick =>
    intro i
    have hcredits : (v.slots i).tick.credits = (v.slots i).credits := by unfold Slot.tick; split <;> rfl
    simpa [CreditOk, hcredits] using h i
  | reset record _ => exact fun _ => by simp [CreditOk, Slot.initial, Mover.creditUsed, creditsOnStack]

/-! ## REMAINING (R27) -/

/-- The slot state is FAULTED at LEG-END. -/
def LegState.atLegEnd : LegState → Bool
  | .faulted f => decide (f.cause.resumePoint = .legEnd)
  | _ => false

/-- REMAINING is between 1 and COUNT of the current leg, but 0 in FAULTED at LEG-END. -/
def RemainingOk (record : LegIx → Option LegRecord) (x : Slot) : Prop :=
  ∀ l ∈ x.currentLeg, ∀ r ∈ record l,
    if faultedAtLegEnd x then x.remaining = 0 else 1 ≤ x.remaining ∧ x.remaining ≤ r.count

theorem faultedAtLegEnd_of_standing (h : x.standing = .inLeg l st) : faultedAtLegEnd x = st.atLegEnd := by
  cases st <;> simp [faultedAtLegEnd, Slot.faultRecord, h, LegState.atLegEnd]

theorem remainingOk_iff (h : x.standing = .inLeg l st) :
    RemainingOk record x ↔
      ∀ r, record l = some r → if st.atLegEnd then x.remaining = 0 else 1 ≤ x.remaining ∧ x.remaining ≤ r.count := by
  simp [RemainingOk, Slot.currentLeg_of_standing h, faultedAtLegEnd_of_standing h]

theorem RemainingOk.of_no_leg (h : x.currentLeg = none) : RemainingOk record x := by simp [RemainingOk, h]

theorem RemainingOk.congr (hx : RemainingOk record x) (hstanding : y.standing = x.standing)
    (hremaining : y.remaining = x.remaining) : RemainingOk record y := by
  have hlegEnd : faultedAtLegEnd y = faultedAtLegEnd x := by simp [faultedAtLegEnd, Slot.faultRecord, hstanding]
  simpa only [RemainingOk, Slot.currentLeg_congr hstanding, hlegEnd, hremaining] using hx

/-- A slot changes its state in its leg, neither the old nor the new one at LEG-END. -/
theorem RemainingOk.turn {st' : LegState} (hx : RemainingOk record x) (h : x.standing = .inLeg l st) (hst : st.atLegEnd = false)
    (h' : y.standing = .inLeg l st') (hst' : st'.atLegEnd = false) (hremaining : y.remaining = x.remaining) :
    RemainingOk record y := by
  rw [remainingOk_iff h'] at *
  rw [remainingOk_iff h] at hx
  simpa [hst, hst', hremaining] using hx

theorem RemainingOk.tick (hx : RemainingOk record x) : RemainingOk record x.tick := by
  unfold Slot.tick
  split
  · next hpaced => exact hx.turn hpaced rfl (st' := .paced _) rfl rfl rfl
  · exact hx

/-- A slot that has just entered a leg (R31). -/
theorem RemainingOk.of_entry {r : LegRecord} (hrec : record l = some r) (hcount : 1 ≤ r.count) (hx : x.standing = .inLeg l st)
    (hst : st.atLegEnd = false) (hremaining : x.remaining = r.count) : RemainingOk record x := by
  rw [remainingOk_iff hx]
  intro r' hr'
  obtain rfl := Option.some.inj (hrec.symm.trans hr')
  simp [hst, hremaining, hcount]

theorem LegState.atLegEnd_of_betweenBursts (h : st.betweenBursts = true) : st.atLegEnd = false := by
  cases st <;> first | rfl | cases h

/-- Every record has a COUNT of at least 1 (R15). -/
def CountsPos (record : LegIx → Option LegRecord) : Prop := ∀ l r, record l = some r → 1 ≤ r.count

theorem LegEnded.remainingOk (hcounts : CountsPos record) (h : LegEnded record l x y) (hx : x.remaining = 0) :
    RemainingOk record y := by
  cases h with
  | done => exact .of_no_leg rfl
  | faulted cause hcause => exact (remainingOk_iff rfl).mpr fun r _ => by simp [LegState.atLegEnd, hcause, hx]
  | enters n rn st hold hrn hst =>
    exact .of_entry hrn (hcounts n rn hrn) rfl (LegState.atLegEnd_of_betweenBursts hst) rfl

theorem BurstEnded.remainingOk (hcounts : CountsPos record) (h : BurstEnded record l x y)
    (hx : ∀ r, record l = some r → x.remaining ≤ r.count) : RemainingOk record y := by
  cases h with
  | goesOn st hold hpos hst =>
    refine (remainingOk_iff rfl).mpr fun r hr => ?_
    rw [LegState.atLegEnd_of_betweenBursts hst]
    exact ⟨Nat.pos_of_ne_zero hpos, hx r hr⟩
  | legEnds _ hzero hend => exact hend.remainingOk hcounts hzero

/-- The law of REMAINING with what it rests on: every record has a COUNT of at least 1. -/
structure View.RemainingLaw (v : View) : Prop where
  counts : CountsPos v.record
  slots : ∀ i, RemainingOk v.record (v.slots i)

/-- Every move keeps the law of REMAINING: a commit lowers it, and ends the leg at 0. -/
theorem View.RemainingLaw.move (hburst : v.BurstLaw) (h : v.RemainingLaw) (hmove : v.Move w) : w.RemainingLaw := by
  obtain ⟨hcounts, h⟩ := h
  have hset {i : SlotIx} {y : Slot} (hy : RemainingOk v.record y) : ∀ j, RemainingOk v.record ((v.set i y).slots j) :=
    View.forall_set (P := fun _ => RemainingOk v.record) (fun j _ => h j) hy
  have hrest {i : SlotIx} {y : Slot} (hx : (v.slots i).atRest = true) (hy : y.standing = (v.slots i).standing) :
      RemainingOk v.record y :=
    .of_no_leg ((Slot.currentLeg_congr hy).trans (Slot.currentLeg_of_atRest hx))
  cases hmove with
  | setup u hatRest _ => exact ⟨hcounts, hset (hrest hatRest rfl)⟩
  | arm _ _ hrec => exact ⟨hcounts, hset (.of_entry hrec (hcounts _ _ hrec) (st := .armed) rfl rfl rfl)⟩
  | holdFlag hold => exact ⟨hcounts, hset ((h _).congr rfl rfl)⟩
  | credit n _ => exact ⟨hcounts, hset ((h _).congr rfl rfl)⟩
  | turn st' hi hst hst' =>
    refine ⟨hcounts, hset ((h _).turn hi ?_ rfl (LegState.atLegEnd_of_betweenBursts hst') rfl)⟩
    rcases hst with hst | ⟨f, rfl, hf⟩
    · exact LegState.atLegEnd_of_betweenBursts hst
    · simp [LegState.atLegEnd, hf]
  | element src dst digest element hi => exact ⟨hcounts, hset ((h _).congr rfl rfl)⟩
  | suspend hi _ _ => exact ⟨hcounts, hset ((h _).turn hi rfl (st' := .suspended) rfl rfl rfl)⟩
  | grant hi _ =>
    refine ⟨hcounts, hset ((h _).turn hi rfl (Slot.burstStart_standing _ _) rfl ?_)⟩
    unfold Slot.burstStart
    dsimp only
    repeat' split
    all_goals rfl
  | pop hstack hi _ =>
    obtain ⟨l, hl⟩ := Slot.isSuspended_iff.mp (hburst.suspended_of_mem (hstack ▸ List.mem_cons_self))
    obtain ⟨rfl, rfl⟩ := Standing.inLeg.inj (hi.symm.trans hl)
    exact ⟨hcounts, hset ((h _).turn hi rfl (st' := .active) rfl rfl rfl)⟩
  | drop _ _ _ => exact ⟨hcounts, h⟩
  | mover m _ _ => exact ⟨hcounts, h⟩
  | commit r _ hi hend =>
    refine ⟨hcounts, hset (hend.remainingOk hcounts fun r' hr' => ?_)⟩
    have hremaining := (remainingOk_iff hi).mp (h _) r' hr'
    simp only [LegState.atLegEnd, Bool.false_eq_true, if_false] at hremaining
    exact (Nat.sub_le _ _).trans hremaining.2
  | fail cause element _ hi hcause =>
    exact ⟨hcounts, hset ((h _).turn hi rfl rfl (by simp [LegState.atLegEnd, hcause]) rfl)⟩
  | cancelActive _ _ => exact ⟨hcounts, hset (.of_no_leg rfl)⟩
  | cancel _ _ => exact ⟨hcounts, hset (.of_no_leg rfl)⟩
  | cancelSuspended _ =>
    refine ⟨hcounts, hset (.of_no_leg ?_)⟩
    simp [Slot.currentLeg, Slot.standing_cancelledFrom]
  | resume hi hf hr hend =>
    have hzero := (remainingOk_iff hi).mp (h _) _ hr
    exact ⟨hcounts, hset (hend.remainingOk hcounts (by simpa [LegState.atLegEnd, hf] using hzero))⟩
  | @link l r n hr =>
    have hcount (m : LegIx) (q : LegRecord) (hq : Function.update v.record l (some { r with next := n }) m = some q) :
        ∃ q', v.record m = some q' ∧ q'.count = q.count := by
      by_cases hm : m = l
      · subst hm
        rw [Function.update_self] at hq
        exact ⟨r, hr, by rw [← Option.some.inj hq]⟩
      · rw [Function.update_of_ne hm] at hq
        exact ⟨q, hq, rfl⟩
    refine ⟨fun m q hq => ?_, fun i m hm q hq => ?_⟩
    · obtain ⟨q', hq', hsame⟩ := hcount m q hq
      exact hsame ▸ hcounts m q' hq'
    · obtain ⟨q', hq', hsame⟩ := hcount m q hq
      exact hsame ▸ h i m hm q' hq'
  | tick => exact ⟨hcounts, fun i => (h i).tick⟩
  | reset record hrecord =>
    refine ⟨fun l r hr => ?_, fun _ => .of_no_leg rfl⟩
    rcases hrecord l with hl | hl
    · exact hcounts l r (hl ▸ hr)
    · cases hl.symm.trans hr

/-! ## The laws of the state -/

theorem State.burstLaw_of_arbiterLaw {s : State} (h : ArbiterLaw s) : s.view.BurstLaw := by
  obtain ⟨hactive, hsuspended, hnodup, hdepth, -⟩ := h
  refine ⟨fun i => ⟨fun hi => ?_, hsuspended i⟩, hnodup, hdepth⟩
  have hserved := (hactive i).mp hi
  unfold Sys2Proof.State.served at hserved
  split at hserved
  · next j snap hmover =>
    obtain rfl := Option.some.inj hserved
    exact ⟨snap, hmover⟩
  · cases hserved

theorem State.creditLaw_iff {s : State} :
    CreditLaw s ↔ ∀ i, CreditOk s.view.mover s.view.stack i (s.view.slots i) := Iff.rfl

theorem State.elementLaw_iff {s : State} : ElementLaw s ↔ ∀ i, ElementOk (s.view.slots i) := Iff.rfl

theorem State.remainingLaw_iff {s : State} : RemainingLaw s ↔ ∀ i, RemainingOk s.view.record (s.view.slots i) := Iff.rfl

/-- The load of a leg that no slot stands in bears no slot's REMAINING (R12, R14). -/
theorem State.Loads.remainingLaw {s t : State} (h : s.Loads t) (hpins : PinLaw s) (hs : RemainingLaw s) : RemainingLaw t := by
  obtain ⟨l, r, hzero, hview⟩ := h
  rw [State.remainingLaw_iff, hview]
  intro i m hm q hq
  have hml : m ≠ l := by
    rintro rfl
    have hpos := pins_pos_of_pinLaw hpins hm
    omega
  have hq : (s.leg m).record = some q := (Function.update_of_ne hml _ s.view.record).symm.trans hq
  exact hs i m hm q hq

end Sys2Proof.Machine

namespace Sys2Proof

open Machine

/-- Settles O58: each law is kept by every move, next to the part of the arbiter's law that says which slots stand in a burst. -/
theorem elementCreditAndRemainingLawsKept : Obligations.ElementCreditAndRemainingLawsKept := by
  intro s t harb hstep
  have hburst := State.burstLaw_of_arbiterLaw harb
  rcases step_moves hstep with hmoves | hload
  · have hkeeps {P : View → Prop} (hP : ∀ {v w : View}, v.BurstLaw → P v → v.Move w → P w) (hs : P s.view) : P t.view :=
      (hmoves.keeps (P := fun v => v.BurstLaw ∧ P v) (fun h hmove => ⟨h.1.move hmove, hP h.1 h.2 hmove⟩) ⟨hburst, hs⟩).2
    refine ⟨hkeeps (P := fun v => ∀ i, ElementOk (v.slots i)) View.elementLaw_move,
      hkeeps (P := fun v => ∀ i, CreditOk v.mover v.stack i (v.slots i)) View.creditLaw_move, fun _ hlegs hs => ?_⟩
    have hcounts : CountsPos s.view.record := fun l r hr => by
      obtain ⟨-, -, hcount, -⟩ := hlegs l r hr
      exact hcount
    exact (hkeeps View.RemainingLaw.move ⟨hcounts, hs⟩).slots
  · refine ⟨?_, ?_, fun hpins _ hs => hload.remainingLaw hpins hs⟩
    · obtain ⟨l, r, -, hview⟩ := hload
      rw [State.elementLaw_iff, State.elementLaw_iff, hview]
      exact id
    · obtain ⟨l, r, -, hview⟩ := hload
      rw [State.creditLaw_iff, State.creditLaw_iff, hview]
      exact id

end Sys2Proof
end

section
/-! # The step, the leg check and the evaluation of eligibility (O1, O26, O27, O42) -/

namespace Sys2Proof.Machine

variable {s t : State} {i : SlotIx} {l : LegIx} {x : Slot}

/-- Two states with the same blocks are the same state. -/
theorem State.eq_of_blocks (hphase : s.phase = t.phase) (hlink : s.link = t.link) (hlegs : s.legs = t.legs)
    (hslots : s.slots = t.slots) (harb : s.arb = t.arb) (hmem : s.mem = t.mem) (hbufArb : s.bufArb = t.bufArb)
    (hfences : s.fences = t.fences) (hports : s.ports = t.ports) (htriggers : s.triggers = t.triggers)
    (hevents : s.events = t.events) (hreports : s.reports = t.reports) (hpending : s.pending = t.pending) : s = t := by
  cases s
  cases t
  simp_all

/-! ## The leg check and the request condition -/

theorem LegRecord.srcPort_eq_some {r : LegRecord} {p : PortIx} : r.srcPort = some p ↔ r.src = .port p := by
  unfold LegRecord.srcPort
  cases r.src <;> simp

theorem LegRecord.dstPort_eq_some {r : LegRecord} {p : PortIx} : r.dstPort = some p ↔ r.dst = .port p := by
  unfold LegRecord.dstPort
  cases r.dst <;> simp

theorem State.legCheck_free (h : (s.leg l).record = none) (port : Option PortIx) : s.legCheck port l = false := by
  simp [State.legCheck, h]

/-- With no PORT a LOADED leg passes exactly when it has no port endpoint (R30). -/
theorem State.legCheck_none {r : LegRecord} (h : (s.leg l).record = some r) :
    s.legCheck none l = true ↔ (∀ p, r.src ≠ .port p) ∧ ∀ p, r.dst ≠ .port p := by
  simp [State.legCheck, h, bindingMatch, portSuits, Option.eq_none_iff_forall_ne_some, LegRecord.srcPort_eq_some,
    LegRecord.dstPort_eq_some]

/-- With PORT p a LOADED leg passes exactly when p is one of its endpoints and is set up for it (R30). -/
theorem State.legCheck_some {r : LegRecord} (h : (s.leg l).record = some r) (hports : portToPort r.src r.dst = false)
    (p : PortIx) :
    s.legCheck (some p) l = true ↔
      (s.port p).enable = true ∧ r.burst ≤ (s.port p).threshold ∧
        ((r.src = .port p ∧ (s.port p).direction = .inward) ∨ (r.dst = .port p ∧ (s.port p).direction = .outward)) := by
  have hcheck : s.legCheck (some p) l = true ↔
      (r.src = .port p ∨ r.dst = .port p) ∧ (s.port p).enable = true ∧
        (s.port p).direction = (if r.src = .port p then .inward else .outward) ∧ r.burst ≤ (s.port p).threshold := by
    simp [State.legCheck, h, bindingMatch, portSuits, LegRecord.srcPort_eq_some, LegRecord.dstPort_eq_some, State.port, and_assoc]
  rw [hcheck]
  by_cases hsrc : r.src = .port p
  · have hdst : r.dst ≠ .port p := fun hdst => by simp [hsrc, hdst, portToPort] at hports
    simp only [hsrc, hdst, if_true, true_and, false_and, or_false]
    tauto
  · simp only [hsrc, if_false, false_or, false_and]
    tauto

theorem Port.condition_inward {p : Port} (h : p.direction = .inward) :
    p.condition = true ↔ p.enable = true ∧ p.threshold ≤ p.fifo.length := by
  simp [Port.condition, Port.occupancy, h]

theorem Port.condition_outward {p : Port} (h : p.direction = .outward) :
    p.condition = true ↔ p.enable = true ∧ p.threshold ≤ 32 - (p.fifo.length - p.staged) - p.staged := by
  simp [Port.condition, Port.freePlaces, Port.committed, Config.fifoCap, h]

/-! ## The evaluation -/

theorem State.evaluate_of_not_armed (h : ∀ l, (s.slot i).standing ≠ .inLeg l .armed) : s.evaluate i = s := by
  unfold State.evaluate
  split
  · next l hl => exact absurd hl (h l)
  · rfl

theorem Slot.eligible_of_armed (h : x.standing = .inLeg l .armed) (ports : Vector Port 8) :
    x.eligible ports = x.grounds ports := by
  simp [Slot.eligible, Slot.isArmed, h]

theorem State.evaluate_of_not_grounds (h : (s.slot i).standing = .inLeg l .armed)
    (hgrounds : ¬ (s.slot i).grounds s.ports = true) : s.evaluate i = s := by
  simp only [State.evaluate, h, Slot.eligible_of_armed h, hgrounds, Bool.false_eq_true, if_false]

theorem State.evaluate_of_idle (h : (s.slot i).standing = .inLeg l .armed) (hgrounds : (s.slot i).grounds s.ports = true)
    (hmover : s.arb.mover = .idle) : s.evaluate i = (s.setLegState i l .ready).grant i := by
  simp only [State.evaluate, h, Slot.eligible_of_armed h, hgrounds, hmover, if_true]

theorem State.evaluate_of_not_idle (h : (s.slot i).standing = .inLeg l .armed) (hgrounds : (s.slot i).grounds s.ports = true)
    (hmover : s.arb.mover ≠ .idle) : s.evaluate i = s.setLegState i l .ready := by
  simp only [State.evaluate, h, Slot.eligible_of_armed h, hgrounds, if_true]

/-- The grounds of eligibility of a slot with no PORT: credits, or a running leg (R35). -/
theorem Slot.grounds_unbound (h : x.setup.port = none) (ports : Vector Port 8) :
    x.grounds ports = true ↔ 0 < x.credits ∨ x.legRun = true := by
  simp [Slot.grounds, h]

/-- The grounds of eligibility of a slot with a PORT: its request condition (R36). -/
theorem Slot.grounds_bound {p : PortIx} (h : x.setup.port = some p) (ports : Vector Port 8) :
    x.grounds ports = (ports.get p).condition := by
  simp [Slot.grounds, h]

/-- The burst start of R50: a credit is used by a slot with no PORT whose leg is not running, and LEG-RUN is set where that slot runs whole legs. -/
theorem Slot.burstStart_eq (x : Slot) (l : LegIx) :
    x.burstStart l =
      ({ x with
          standing := .inLeg l .active
          credits := if x.setup.port.isNone && !(x.setup.runLeg && x.legRun) then x.credits - 1 else x.credits
          legRun := if x.setup.port.isNone && x.setup.runLeg && !x.legRun then true else x.legRun },
        { src := x.src, dst := x.dst, digest := x.digest
          creditUsed := x.setup.port.isNone && !(x.setup.runLeg && x.legRun)
          runSet := x.setup.port.isNone && x.setup.runLeg && !x.legRun }) := by
  unfold Slot.burstStart
  cases x.setup.port with
  | some p => simp
  | none => cases x.setup.runLeg <;> cases x.legRun <;> simp

/-- A grant of a READY slot, up to its element's ask (R75). -/
theorem State.grant_eq (h : (s.slot i).standing = .inLeg l .ready) :
    s.grant i =
      State.elementBegins
        { s with
          slots := s.slots.set i ((s.slot i).burstStart l).1
          arb :=
            { s.arb with
              pointers := s.arb.pointers.set (s.slot i).setup.priority i
              mover := .busy i ((s.slot i).burstStart l).2 } } := by
  simp only [State.grant, h]

/-- An element comes into flight: with a FREE leg it asks for no grant. -/
theorem State.grant_bufArb_free (h : (s.slot i).standing = .inLeg l .ready) (hr : (s.leg l).record = none) :
    (s.grant i).bufArb = s.bufArb := by
  let t : State :=
    { s with
      slots := s.slots.set i ((s.slot i).burstStart l).1
      arb :=
        { s.arb with
          pointers := s.arb.pointers.set (s.slot i).setup.priority i
          mover := .busy i ((s.slot i).burstStart l).2 } }
  have hslot : (t.slot i).currentLeg = some l := by
    refine Slot.currentLeg_of_standing (st := .active) ?_
    exact (congrArg Slot.standing ((Vector.get_set_fin _ _ _ _).trans (if_pos rfl))).trans (Slot.burstStart_standing _ _)
  have hflight : t.bufferInFlight = false := by
    have hfree : (t.leg l).record = none := hr
    have hmover : t.arb.mover = .busy i ((s.slot i).burstStart l).2 := rfl
    simp only [State.bufferInFlight, hmover, hslot, hfree]
  rw [State.grant_eq h, State.elementBegins, if_neg (by simp [t, hflight])]

/-! ## A change of the link commutes with an evaluation -/

theorem State.elementBegins_link (s : State) (k : Link) :
    State.elementBegins { s with link := k } = { s.elementBegins with link := k } := by
  unfold State.elementBegins
  split
  · next h => rw [if_pos (show s.bufferInFlight = true ∧ s.bufArb.grant = some .link from h)]
  · next h => rw [if_neg (show ¬ (s.bufferInFlight = true ∧ s.bufArb.grant = some .link) from h)]

theorem State.grant_of_not_ready (h : ∀ l, (s.slot i).standing ≠ .inLeg l .ready) : s.grant i = s := by
  unfold State.grant
  split
  · next l hl => exact absurd hl (h l)
  · rfl

theorem State.grant_link (s : State) (k : Link) (i : SlotIx) :
    State.grant { s with link := k } i = { s.grant i with link := k } := by
  by_cases h : ∃ l, (s.slot i).standing = .inLeg l .ready
  · obtain ⟨l, h⟩ := h
    rw [State.grant_eq h, State.grant_eq (s := { s with link := k }) h, ← State.elementBegins_link]
    rfl
  · have h := not_exists.mp h
    rw [State.grant_of_not_ready h, State.grant_of_not_ready (s := { s with link := k }) h]

theorem State.evaluate_link (s : State) (k : Link) (i : SlotIx) :
    State.evaluate { s with link := k } i = { s.evaluate i with link := k } := by
  by_cases h : ∃ l, (s.slot i).standing = .inLeg l .armed
  · obtain ⟨l, h⟩ := h
    by_cases hgrounds : (s.slot i).grounds s.ports = true
    · by_cases hmover : s.arb.mover = .idle
      · rw [State.evaluate_of_idle h hgrounds hmover, State.evaluate_of_idle (s := { s with link := k }) h hgrounds hmover]
        exact State.grant_link (s.setLegState i l .ready) k i
      · rw [State.evaluate_of_not_idle h hgrounds hmover,
          State.evaluate_of_not_idle (s := { s with link := k }) h hgrounds hmover]
        exact State.eq_of_blocks rfl rfl rfl rfl rfl rfl rfl rfl rfl rfl rfl rfl rfl
    · rw [State.evaluate_of_not_grounds h hgrounds, State.evaluate_of_not_grounds (s := { s with link := k }) h hgrounds]
  · have h := not_exists.mp h
    rw [State.evaluate_of_not_armed h, State.evaluate_of_not_armed (s := { s with link := k }) h]

/-! ## Pace expiry and time -/

theorem execPaceExpiry_of_paced {n : Nat} (hrun : s.phase = .running) (h : (s.slot i).standing = .inLeg l (.paced n)) :
    execPaceExpiry i s = .next ((s.setLegState i l .armed).evaluate i) := by
  simp only [execPaceExpiry, State.whenRunning, hrun, if_true, State.paceExpires, h]

theorem execPaceExpiry_of_no_timer (h : (s.slot i).timer = none) : execPaceExpiry i s = .next s := by
  have hstays : s.paceExpires i = s := by
    unfold State.paceExpires
    split
    · next n hn => simp [Slot.timer, hn] at h
    · rfl
  simp only [execPaceExpiry, State.whenRunning, hstays, ite_self]

theorem State.slot_tick (s : State) (i : SlotIx) : s.tick.slot i = (s.slot i).tick := by simp [State.tick, State.slot]

end Sys2Proof.Machine

namespace Sys2Proof

open Machine

/-- Settles O1: by the definition of a step, with the queue's two forms. -/
theorem stepRunsFrontCommandOrTicks : Obligations.StepRunsFrontCommandOrTicks := by
  refine ⟨fun c s rest hpending => by simp only [step, hpending], fun s hpending => ⟨s.tick, ?_, rfl, fun i => ?_⟩⟩
  · simp only [step, hpending]
  · exact State.slot_tick s i

/-- Settles O26: the leg check and the request condition, case by case. -/
theorem legCheckAndRequestCondition : Obligations.LegCheckAndRequestCondition := by
  refine ⟨fun s l => ⟨State.legCheck_free, fun rec hrec hports =>
    ⟨State.legCheck_none hrec, State.legCheck_some hrec hports⟩⟩, fun p => ⟨fun h => ?_, fun h => ?_⟩⟩
  · exact ⟨by simp [Port.occupancy, h], by simp [Port.committed, h], Port.condition_inward h⟩
  · exact ⟨by simp [Port.occupancy, h], by simp [Port.committed, h], Port.condition_outward h⟩

/-- Settles O42: an expiry is a turn to ARMED and an evaluation. -/
theorem paceExpiryArmsThePacedSlot : Obligations.PaceExpiryArmsThePacedSlot := fun _ _ hrun =>
  ⟨fun _ _ hpaced => execPaceExpiry_of_paced hrun hpaced, execPaceExpiry_of_no_timer⟩

/-- Settles O27: an evaluation of an eligible ARMED slot, and the grant that follows with an idle mover. -/
theorem eligibilityMakesReadyAndGrantsTheIdleMover : Obligations.EligibilityMakesReadyAndGrantsTheIdleMover := by
  intro s i x eligible
  have hgrounds : x.grounds s.ports = true ↔ eligible := by
    cases hport : x.setup.port with
    | none => simp only [Slot.grounds_unbound hport, eligible, hport]
    | some p => simp only [Slot.grounds_bound hport, eligible, hport, State.port]
  refine ⟨State.evaluate_of_not_armed, fun l harmed => ⟨fun h => ?_, fun h hmover => ?_, fun h hmover => ?_⟩⟩
  · exact State.evaluate_of_not_grounds harmed (hgrounds.not.mpr h)
  · exact State.evaluate_of_not_idle harmed (hgrounds.mpr h) hmover
  · intro uses sets t
    have hready : ((s.setLegState i l .ready).slot i).standing = .inLeg l .ready := by simp [State.slot_setLegState]
    have ht : t = (s.setLegState i l .ready).grant i :=
      State.evaluate_of_idle harmed (hgrounds.mpr h) hmover
    have hslot : (s.setLegState i l .ready).slot i = { x with standing := .inLeg l .ready } := by
      simp [State.slot_setLegState, x]
    rw [ht]
    refine ⟨?_, ?_, ?_, fun r hr => State.grant_bufArb hready hr, State.grant_bufArb_free hready⟩
    · exact State.eq_of_blocks (by simp) (by simp) (by simp) rfl rfl (by simp) rfl (by simp) (by simp) (by simp) (by simp)
        (by simp) (by simp)
    · simp only [State.grant_eq hready, State.elementBegins_frame, hslot, Slot.burstStart_eq]
      rfl
    · simp only [State.grant_eq hready, State.elementBegins_frame, hslot, Slot.burstStart_eq, State.setLegState_slots,
        Vector.set_set]
      rfl

end Sys2Proof
end

section
/-! # The requests of the slot table (O24, O25, O28, O29, O33)

A slot request is answered RANGE, or by what its owner does at the slot; each owner is then one case for each state the slot stands
in. -/

namespace Sys2Proof.Machine

variable {s u : State} {r : Request} {rest : List Request} {k : ReqKind} {i : SlotIx} {l : LegIx} {x : Slot}

/-! ## The slot number -/

/-- The body checks pass a body that is one slot number, and the number reads back (R186, R201). -/
theorem slotBody {n : Nat} (hflags : k.flagsByte? = none) (hlen : k.lengthOk 1 = true) (hn : n < 256) (hbody : r.body = leBytes 1 n) :
    bodyRefusal? k r.body = none ∧ fieldAt r.body 0 1 = n := by
  rw [hbody]
  exact ⟨bodyRefusal?_of_no_flags hflags (by simpa using hlen), (fieldAt_leBytes 1 n).trans (Nat.mod_eq_of_lt hn)⟩

theorem withSlot_of_not_lt {b : List Byte} {n : Nat} (hn : fieldAt b 0 1 = n) (h : ¬ n < 16) (t : State)
    (f : SlotIx → State × Reply) : withSlot b t f = (t, Reply.bare .range) := by
  simp only [withSlot, hn, index?_of_not_lt h]

theorem withSlot_of_val {b : List Byte} {n : Nat} (hn : fieldAt b 0 1 = n) (hi : i.val = n) (t : State)
    (f : SlotIx → State × Reply) : withSlot b t f = f i := by
  simp only [withSlot, hn, index?_eq_some.mpr hi.symm]

/-- A slot request with a number above 15 is refused with RANGE (R22). -/
theorem State.slotRow_of_not_lt {n : Nat} (htakes : Takes s r rest) (hkind : r.kind = k) (hcheck : bodyRefusal? k r.body = none)
    (hn : fieldAt r.body 0 1 = n) (h : ¬ n < 16) (f : List Byte → State → SlotIx → State × Reply) :
    s.serveNow k (fun b t => withSlot b t (f b t)) = .next { s with link := replied s.link r rest .range [] } :=
  State.serveNow_of_takes (u := s.taken rest) (rep := Reply.bare .range) htakes hkind hcheck (withSlot_of_not_lt hn h _ _) rfl

/-- A slot request acts at its slot, and is answered. -/
theorem State.slotRow_of_val {n : Nat} (htakes : Takes s r rest) (hkind : r.kind = k) (hcheck : bodyRefusal? k r.body = none)
    (hn : fieldAt r.body 0 1 = n) (hi : i.val = n) {f : List Byte → State → SlotIx → State × Reply} {rep : Reply}
    (hf : f r.body (s.taken rest) i = (u, rep)) (hu : u.link = (s.taken rest).link) :
    s.serveNow k (fun b t => withSlot b t (f b t)) = .next { u with link := replied s.link r rest rep.status rep.data } :=
  State.serveNow_of_takes htakes hkind hcheck ((withSlot_of_val hn hi _ _).trans hf) hu

theorem Slot.atRest_iff : x.atRest = true ↔ x.standing = .idle ∨ x.standing = .done := by
  unfold Slot.atRest
  split <;> simp_all

theorem State.portTaken_iff {port : Option PortIx} :
    s.portTaken i port = true ↔ ∃ p j, port = some p ∧ j ≠ i ∧ (s.slot j).boundTo p = true := by
  cases port with
  | none => simp [State.portTaken]
  | some p => simp [State.portTaken, State.portHeldByOther]

/-! ## SLOT_HOLD -/

theorem execSlotHold_taken (htakes : Takes s r rest) (hkind : r.kind = .slotHold) (hbody : r.body = leBytes 1 i.val)
    (h : (s.taken rest).hold? i = some u) : execSlotHold s = .next { u with link := replied s.link r rest .ok [] } := by
  obtain ⟨hcheck, hindex⟩ := slotBody (k := .slotHold) rfl rfl (by omega) hbody
  obtain ⟨-, hlink, -⟩ := State.hold?_frame h
  exact State.slotRow_of_val (i := i) (rep := Reply.bare .ok) htakes hkind hcheck hindex rfl (by simp only [h]) hlink

theorem execSlotHold_refused (htakes : Takes s r rest) (hkind : r.kind = .slotHold) (hbody : r.body = leBytes 1 i.val)
    (h : (s.taken rest).hold? i = none) : execSlotHold s = .next { s with link := replied s.link r rest .state [] } := by
  obtain ⟨hcheck, hindex⟩ := slotBody (k := .slotHold) rfl rfl (by omega) hbody
  exact State.slotRow_of_val (i := i) (u := s.taken rest) (rep := Reply.bare .state) htakes hkind hcheck hindex rfl
    (by simp only [h]) rfl

theorem State.hold?_of_betweenBursts {st : LegState} (h : (s.slot i).standing = .inLeg l st)
    (hst : st = .armed ∨ st = .ready ∨ ∃ n, st = .paced n) :
    s.hold? i = some ((s.setLegState i l .held).report (.held i l (s.slot i).remaining)) := by
  rcases hst with rfl | rfl | ⟨n, rfl⟩ <;> simp only [State.hold?, h]

theorem State.hold?_of_inBurst {st : LegState} (h : (s.slot i).standing = .inLeg l st) (hst : st = .active ∨ st = .suspended) :
    s.hold? i = some (s.updSlot i fun x => { x with holdRequested := true }) := by
  rcases hst with rfl | rfl <;> simp only [State.hold?, h]

theorem State.hold?_of_held (h : (s.slot i).standing = .inLeg l .held) : s.hold? i = some s := by simp only [State.hold?, h]

theorem State.hold?_of_refusing
    (h : (s.slot i).standing = .idle ∨ (s.slot i).standing = .done ∨ ∃ l f, (s.slot i).standing = .inLeg l (.faulted f)) :
    s.hold? i = none := by
  rcases h with h | h | ⟨l, f, h⟩ <;> simp only [State.hold?, h]

/-! ## SLOT_START -/

/-- The fields of a SLOT-START body (R199). -/
theorem slotStartBody {n c : Nat} (hn : n < 256) (hc : c < 256) (hbody : r.body = leBytes 1 n ++ leBytes 1 c) :
    bodyRefusal? .slotStart r.body = none ∧ fieldAt r.body 0 1 = n ∧ fieldAt r.body 1 1 = c := by
  refine ⟨bodyRefusal?_of_no_flags rfl (by simp [hbody, ReqKind.lengthOk]), ?_, ?_⟩
  · rw [hbody, fieldAt_leBytes_append]
    exact Nat.mod_eq_of_lt hn
  · rw [hbody, fieldAt_append_of_le (by simp), length_leBytes, fieldAt_leBytes]
    exact Nat.mod_eq_of_lt hc

section
variable {c : Nat} (htakes : Takes s r rest) (hkind : r.kind = .slotStart) (hc : c < 256)
  (hbody : r.body = leBytes 1 i.val ++ leBytes 1 c)
include htakes hkind hc hbody

theorem execSlotStart_field (h : ¬ (1 ≤ c ∧ c ≤ 15)) :
    execSlotStart s = .next { s with link := replied s.link r rest .field [] } := by
  obtain ⟨hcheck, hindex, hcredits⟩ := slotStartBody (by omega) hc hbody
  exact State.slotRow_of_val (i := i) (u := s.taken rest) (rep := Reply.bare .field) htakes hkind hcheck hindex rfl
    (by simp only [hcredits, Config.creditCap, h, if_false]) rfl

theorem execSlotStart_refused (h : 1 ≤ c ∧ c ≤ 15) {e : CreditRefusal} (hadd : (s.taken rest).addCredits i c = .error e) :
    execSlotStart s = .next { s with link := replied s.link r rest e.status [] } := by
  obtain ⟨hcheck, hindex, hcredits⟩ := slotStartBody (by omega) hc hbody
  exact State.slotRow_of_val (i := i) (u := s.taken rest) (rep := Reply.bare e.status) htakes hkind hcheck hindex rfl
    (by simp only [hcredits, Config.creditCap, h, and_self, if_true, hadd]) rfl

theorem execSlotStart_taken (h : 1 ≤ c ∧ c ≤ 15) (hadd : (s.taken rest).addCredits i c = .ok u) :
    execSlotStart s = .next { u with link := replied s.link r rest .ok (leBytes 1 ((s.slot i).credits + c)) } := by
  obtain ⟨hcheck, hindex, hcredits⟩ := slotStartBody (by omega) hc hbody
  obtain ⟨-, hlink, -⟩ := State.addCredits_frame hadd
  exact State.slotRow_of_val (i := i) (rep := Reply.okWith (leBytes 1 ((s.slot i).credits + c))) htakes hkind hcheck hindex rfl
    (by simp only [hcredits, Config.creditCap, h, and_self, if_true, hadd]; rfl) hlink

end

theorem State.addCredits_eq (s : State) (i : SlotIx) (n : Nat) :
    s.addCredits i n =
      if (s.slot i).isBound then .error .mode
      else if (s.slot i).standing = .idle ∨ (s.slot i).standing = .done then .error .state
      else if 15 < (s.slot i).credits + s.outstanding i + n then .error .limit
      else .ok (State.evaluate { s with slots := s.slots.set i { s.slot i with credits := (s.slot i).credits + n } } i) := by
  simp only [State.addCredits, Slot.atRest_iff]
  rfl

end Sys2Proof.Machine

namespace Sys2Proof

open Machine

/-- Settles O29: the hold in each state of the slot. -/
theorem slotHoldActsByTheState : Obligations.SlotHoldActsByTheState := by
  intro s r rest n htakes hkind hn hbody
  show execSlotHold s = _
  split
  · next hlt =>
    dsimp only
    split
    · next h => exact execSlotHold_taken htakes hkind hbody (State.hold?_of_betweenBursts h (.inl rfl))
    · next h => exact execSlotHold_taken htakes hkind hbody (State.hold?_of_betweenBursts h (.inr (.inl rfl)))
    · next h => exact execSlotHold_taken htakes hkind hbody (State.hold?_of_betweenBursts h (.inr (.inr ⟨_, rfl⟩)))
    · next h => exact execSlotHold_taken htakes hkind hbody (State.hold?_of_inBurst h (.inl rfl))
    · next h => exact execSlotHold_taken htakes hkind hbody (State.hold?_of_inBurst h (.inr rfl))
    · next h => exact execSlotHold_taken (i := ⟨n, hlt⟩) (u := s.taken rest) htakes hkind hbody (State.hold?_of_held h)
    · next h => exact execSlotHold_refused htakes hkind hbody (State.hold?_of_refusing (.inl h))
    · next h => exact execSlotHold_refused htakes hkind hbody (State.hold?_of_refusing (.inr (.inl h)))
    · next h => exact execSlotHold_refused htakes hkind hbody (State.hold?_of_refusing (.inr (.inr ⟨_, _, h⟩)))
  · next hlt =>
    obtain ⟨hcheck, hindex⟩ := slotBody (k := .slotHold) rfl rfl hn hbody
    exact State.slotRow_of_not_lt htakes hkind hcheck hindex hlt _

/-- Settles O28: the checks of R34 in their order, and an addition that the evaluation follows. -/
theorem slotStartAddsCreditsWithinTheLimit : Obligations.SlotStartAddsCreditsWithinTheLimit := by
  intro s r rest n c htakes hkind hn hc hbody
  show execSlotStart s = _
  split
  · next hlt =>
    extract_lets i
    have hadd := State.addCredits_eq (s.taken rest) i c
    split
    · next hcredits =>
      split
      · next hbound =>
        exact execSlotStart_refused (i := i) htakes hkind hc hbody hcredits (hadd.trans (if_pos hbound))
      · next hbound =>
        replace hadd := hadd.trans (if_neg hbound)
        split
        · next hrest =>
          exact execSlotStart_refused (i := i) htakes hkind hc hbody hcredits (hadd.trans (if_pos hrest))
        · next hrest =>
          replace hadd := hadd.trans (if_neg hrest)
          split
          · next hlimit =>
            exact execSlotStart_refused (i := i) htakes hkind hc hbody hcredits (hadd.trans (if_pos hlimit))
          · next hlimit =>
            replace hadd := hadd.trans (if_neg hlimit)
            let given : State := { s with slots := s.slots.set i { s.slot i with credits := (s.slot i).credits + c } }
            have hevaluate : State.evaluate { given with link := (s.taken rest).link } i = _ :=
              given.evaluate_link (s.taken rest).link i
            exact execSlotStart_taken (i := i) (u := { given.evaluate i with link := (s.taken rest).link }) htakes hkind hc hbody
              hcredits (hadd.trans (congrArg Except.ok hevaluate))
    · next hcredits => exact execSlotStart_field (i := i) htakes hkind hc hbody hcredits
  · next hlt =>
    obtain ⟨hcheck, hindex, -⟩ := slotStartBody hn hc hbody
    exact State.slotRow_of_not_lt htakes hkind hcheck hindex hlt _

end Sys2Proof
end

section
/-! # SLOT_SETUP and SLOT_ARM (O24, O25) -/

namespace Sys2Proof.Machine

variable {s u : State} {r : Request} {rest : List Request} {i : SlotIx} {l : LegIx}

/-! ## SLOT_SETUP -/

/-- A port number or NONE: 0–7 or FFh (R196). -/
theorem portOrNone?_of_mem {v : Nat} (h : v < 8 ∨ v = 255) :
    portOrNone? v = some (if hv : v < 8 then some ⟨v, hv⟩ else none) := by
  unfold portOrNone?
  split
  · next hv => rw [dif_neg (by omega)]
  · next hv =>
    have hlt : v < 8 := by omega
    rw [dif_pos hlt, index?_of_lt hlt, Option.map_some]

theorem portOrNone?_eq_none {v : Nat} (h : ¬ (v < 8 ∨ v = 255)) : portOrNone? v = none := by
  unfold portOrNone?
  rw [if_neg (by omega), index?_of_not_lt (by omega), Option.map_none]

/-- The bytes of a SLOT-SETUP body (R199). -/
def slotSetupBytes (n pr port pace first : Nat) (yields preempt run : Bool) : List Byte :=
  leBytes 1 n ++ leBytes 1 pr
    ++ [BitVec.ofNat 8 ((if yields then 1 else 0) + (if preempt then 2 else 0) + (if run then 4 else 0))]
    ++ leBytes 1 port ++ leBytes 2 pace ++ leBytes 2 first

section
variable {n pr port pace first : Nat} {yields preempt run : Bool} (hn : n < 256) (hpr : pr < 256) (hport : port < 256)
  (hpace : pace < 65536) (hfirst : first < 65536)

theorem slotSetupBytes_flags :
    byteAt (slotSetupBytes n pr port pace first yields preempt run) 2 =
      BitVec.ofNat 8 (flagBit 0 yields + flagBit 1 preempt + flagBit 2 run) := by
  simp [slotSetupBytes, byteAt, leBytes, flagBit]

theorem slotSetup_bodyRefusal? : bodyRefusal? .slotSetup (slotSetupBytes n pr port pace first yields preempt run) = none := by
  obtain ⟨-, -, -, hflags⟩ := getLsbD_flags yields preempt run
  refine bodyRefusal?_eq_none.mpr ⟨by simp [slotSetupBytes, ReqKind.lengthOk], ?_⟩
  simpa [ReqKind.unusedClear, ReqKind.flagsByte?, slotSetupBytes_flags] using hflags

include hn in
theorem slotSetupBytes_index : fieldAt (slotSetupBytes n pr port pace first yields preempt run) 0 1 = n := by
  simp only [slotSetupBytes, List.append_assoc, fieldAt_leBytes_append]
  exact Nat.mod_eq_of_lt hn

include hpr hport hpace hfirst in
/-- The seven fields read back, where each is in its set (R24, R199). -/
theorem setup?_slotSetupBytes :
    setup? (slotSetupBytes n pr port pace first yields preempt run) 1 =
      if hf : pr < 8 ∧ (port < 8 ∨ port = 255) ∧ (first < 512 ∨ first = 65535) then
        some
          { priority := ⟨pr, hf.1⟩, yields := yields, preempt := preempt
            port := if hp : port < 8 then some ⟨port, hp⟩ else none
            runLeg := run, pace := pace
            firstLeg := if hl : first < 512 then some ⟨first, hl⟩ else none }
      else none := by
  have hprField : fieldAt (slotSetupBytes n pr port pace first yields preempt run) 1 1 = pr := by
    simpa [slotSetupBytes] using hpr
  have hportField : fieldAt (slotSetupBytes n pr port pace first yields preempt run) 3 1 = port := by
    simpa [slotSetupBytes] using hport
  have hpaceField : fieldAt (slotSetupBytes n pr port pace first yields preempt run) 4 2 = pace := by
    simpa [slotSetupBytes] using hpace
  have hfirstField : fieldAt (slotSetupBytes n pr port pace first yields preempt run) 6 2 = first := by
    simpa [slotSetupBytes] using hfirst
  obtain ⟨hyields, hpreempt, hrun, -⟩ := getLsbD_flags yields preempt run
  simp only [setup?, hprField, hportField, hpaceField, hfirstField, Nat.reduceAdd, slotSetupBytes_flags,
    hyields, hpreempt, hrun]
  by_cases hmemPr : pr < 8
  · by_cases hmemPort : port < 8 ∨ port = 255
    · by_cases hmemFirst : first < 512 ∨ first = 65535
      · simp only [hmemPr, hmemPort, hmemFirst, and_self, dite_true, index?_of_lt, portOrNone?_of_mem, legOrNone?_of_mem]
      · simp only [hmemPr, hmemPort, hmemFirst, and_false, dite_false, index?_of_lt, portOrNone?_of_mem,
          legOrNone?_eq_none hmemFirst]
    · simp only [hmemPr, hmemPort, and_false, false_and, dite_false, index?_of_lt, portOrNone?_eq_none hmemPort]
  · simp only [hmemPr, false_and, dite_false, index?_of_not_lt hmemPr]

end

section
variable {w : Setup} (htakes : Takes s r rest) (hkind : r.kind = .slotSetup) (hcheck : bodyRefusal? .slotSetup r.body = none)
  (hindex : fieldAt r.body 0 1 = i.val)
include htakes hkind hcheck hindex

theorem execSlotSetup_field (hsetup : setup? r.body 1 = none) :
    execSlotSetup s = .next { s with link := replied s.link r rest .field [] } :=
  State.slotRow_of_val (i := i) (u := s.taken rest) (rep := Reply.bare .field) htakes hkind hcheck hindex rfl
    (by simp only [hsetup]) rfl

theorem execSlotSetup_state (hsetup : setup? r.body 1 = some w) (hrest : ¬ ((s.taken rest).slot i).atRest = true) :
    execSlotSetup s = .next { s with link := replied s.link r rest .state [] } :=
  State.slotRow_of_val (i := i) (u := s.taken rest) (rep := Reply.bare .state) htakes hkind hcheck hindex rfl
    (by simp only [hsetup, if_neg hrest]) rfl

theorem execSlotSetup_inUse (hsetup : setup? r.body 1 = some w) (hrest : ((s.taken rest).slot i).atRest = true)
    (hport : (s.taken rest).portTaken i w.port = true) :
    execSlotSetup s = .next { s with link := replied s.link r rest .inUse [] } :=
  State.slotRow_of_val (i := i) (u := s.taken rest) (rep := Reply.bare .inUse) htakes hkind hcheck hindex rfl
    (by simp only [hsetup, if_pos hrest, if_pos hport]) rfl

theorem execSlotSetup_taken (hsetup : setup? r.body 1 = some w) (hrest : ((s.taken rest).slot i).atRest = true)
    (hport : ¬ (s.taken rest).portTaken i w.port = true) :
    execSlotSetup s =
      .next { s with link := replied s.link r rest .ok [], slots := s.slots.set i { s.slot i with setup := w } } :=
  State.slotRow_of_val (i := i) (u := (s.taken rest).updSlot i fun x => { x with setup := w }) (rep := Reply.bare .ok) htakes
    hkind hcheck hindex rfl (by simp only [hsetup, if_pos hrest, if_neg hport]) rfl

end

/-! ## SLOT_ARM -/

section
variable (htakes : Takes s r rest) (hkind : r.kind = .slotArm) (hbody : r.body = leBytes 1 i.val)
include htakes hkind hbody

theorem execSlotArm_refused {e : ArmRefusal} (harm : (s.taken rest).arm i = .error e) :
    execSlotArm s = .next { s with link := replied s.link r rest e.status [] } := by
  obtain ⟨hcheck, hindex⟩ := slotBody (k := .slotArm) rfl rfl (by omega) hbody
  exact State.slotRow_of_val (i := i) (u := s.taken rest) (rep := Reply.bare e.status) htakes hkind hcheck hindex rfl
    (by simp only [harm]) rfl

theorem execSlotArm_taken (harm : (s.taken rest).arm i = .ok u) :
    execSlotArm s = .next { u with link := replied s.link r rest .ok [] } := by
  obtain ⟨hcheck, hindex⟩ := slotBody (k := .slotArm) rfl rfl (by omega) hbody
  obtain ⟨-, hlink, -⟩ := State.arm_frame harm
  exact State.slotRow_of_val (i := i) (rep := Reply.bare .ok) htakes hkind hcheck hindex rfl (by simp only [harm]) hlink

end

/-! The checks of an arm, in the order of R32. -/

theorem State.arm_of_not_atRest (hrest : ¬ (s.slot i).atRest = true) : s.arm i = .error .state := if_neg hrest

theorem State.arm_of_no_leg (hrest : (s.slot i).atRest = true) (hfirst : (s.slot i).setup.firstLeg = none) :
    s.arm i = .error .leg := by
  simp only [State.arm, hrest, hfirst, if_true]

theorem State.arm_of_portTaken (hrest : (s.slot i).atRest = true) (hfirst : (s.slot i).setup.firstLeg = some l)
    (hport : s.portTaken i (s.slot i).setup.port = true) : s.arm i = .error .inUse := by
  simp only [State.arm, hrest, hfirst, hport, if_true]

theorem State.arm_of_not_legCheck (hrest : (s.slot i).atRest = true) (hfirst : (s.slot i).setup.firstLeg = some l)
    (hport : ¬ s.portTaken i (s.slot i).setup.port = true) (hcheck : s.legCheck (s.slot i).setup.port l = false) :
    s.arm i = .error .leg := by
  simp only [State.arm, hrest, hfirst, if_true, if_neg hport, hcheck, Bool.false_eq_true, if_false]

/-- The state once slot i has entered leg l of record rec, before its evaluation (R31, R32). -/
def State.armed (s : State) (i : SlotIx) (l : LegIx) (rec : LegRecord) : State :=
  { s with
    slots := s.slots.set i
      { s.slot i with
        standing := .inLeg l .armed, src := rec.srcAddr, dst := rec.dstAddr, remaining := rec.count, element := 0
        digest := 0xFFFFFFFF, legRun := false, credits := 0, holdRequested := false }
    legs := s.legs.set l { record := some rec, pins := (s.leg l).pins + 1 } }

theorem State.arm_eq_armed {rec : LegRecord} (hrest : (s.slot i).atRest = true) (hfirst : (s.slot i).setup.firstLeg = some l)
    (hport : ¬ s.portTaken i (s.slot i).setup.port = true) (hrec : (s.leg l).record = some rec)
    (hcheck : s.legCheck (s.slot i).setup.port l = true) : s.arm i = .ok ((s.armed i l rec).evaluate i) := by
  have harmed : (s.updSlot i fun x => { x.entered l rec .armed with credits := 0, holdRequested := false }).pin l =
      s.armed i l rec := by
    refine State.eq_of_blocks rfl rfl ?_ rfl rfl rfl rfl rfl rfl rfl rfl rfl rfl
    simp only [State.pin_legs, State.leg_updSlot, hrec]
    rfl
  simp only [State.arm, hrest, hfirst, hport, hcheck, hrec, if_true, harmed]
  rfl

/-- A slot just armed has no credit and no running leg, so with no PORT it stays ARMED (R32, R35). -/
theorem State.evaluate_armed {rec : LegRecord} (hport : (s.slot i).setup.port = none) :
    (s.armed i l rec).evaluate i = s.armed i l rec := by
  have hslot : (s.armed i l rec).slot i = _ := (Vector.get_set_fin _ i i _).trans (if_pos rfl)
  refine State.evaluate_of_not_grounds (l := l) (by rw [hslot]) ?_
  rw [Slot.grounds_unbound (by rw [hslot]; exact hport), hslot]
  simp

end Sys2Proof.Machine

namespace Sys2Proof

open Machine

/-- Settles O24: the fields read back from their bytes, and the checks of R24 come in their order. -/
theorem slotSetupWritesTheSevenFields : Obligations.SlotSetupWritesTheSevenFields := by
  intro s r rest n pr port pace first yields preempt run htakes hkind hn hpr hport hpace hfirst hbody
  have hbody : r.body = slotSetupBytes n pr port pace first yields preempt run := hbody
  have hcheck : bodyRefusal? .slotSetup r.body = none := hbody ▸ slotSetup_bodyRefusal?
  have hindex : fieldAt r.body 0 1 = n := hbody ▸ slotSetupBytes_index hn
  have hsetup : setup? r.body 1 = _ := hbody ▸ setup?_slotSetupBytes hpr hport hpace hfirst
  show execSlotSetup s = _
  split
  · next hlt =>
    let i : SlotIx := ⟨n, hlt⟩
    split
    · next hfields =>
      replace hsetup := hsetup.trans (dif_pos hfields)
      split
      · next hrest =>
        have hrest : ((s.taken rest).slot i).atRest = true := Slot.atRest_iff.mpr hrest
        have hport (p : PortIx) : (if hp : port < 8 then some (⟨port, hp⟩ : PortIx) else none) = some p ↔ p.val = port := by
          split
          · simp [Fin.ext_iff, eq_comm]
          · simp only [reduceCtorEq, false_iff]
            omega
        have htaken : (s.taken rest).portTaken i (if hp : port < 8 then some ⟨port, hp⟩ else none) = true ↔
            ∃ (p : PortIx) (j : SlotIx), p.val = port ∧ j.val ≠ n ∧ (s.slot j).boundTo p = true := by
          simp only [State.portTaken_iff, hport, i, ne_eq, Fin.ext_iff]
          rfl
        split
        · next hheld => exact execSlotSetup_inUse (i := i) htakes hkind hcheck hindex hsetup hrest (htaken.mpr hheld)
        · next hfree => exact execSlotSetup_taken (i := i) htakes hkind hcheck hindex hsetup hrest (htaken.not.mpr hfree)
      · next hrest =>
        exact execSlotSetup_state (i := i) htakes hkind hcheck hindex hsetup fun h => hrest (Slot.atRest_iff.mp h)
    · next hfields => exact execSlotSetup_field (i := i) htakes hkind hcheck hindex (hsetup.trans (dif_neg hfields))
  · next hlt => exact State.slotRow_of_not_lt htakes hkind hcheck hindex hlt _

/-- Settles O25: the checks of R32 in their order, and the entry of FIRST-LEG that the evaluation follows. -/
theorem slotArmEntersTheFirstLeg : Obligations.SlotArmEntersTheFirstLeg := by
  intro s r rest n htakes hkind hn hbody
  refine ⟨fun hge => ?_, ?_⟩
  · obtain ⟨hcheck, hindex⟩ := slotBody (k := .slotArm) rfl rfl hn hbody
    show execSlotArm s = _
    exact State.slotRow_of_not_lt htakes hkind hcheck hindex (Nat.not_lt.mpr hge) _
  rintro i rfl
  refine ⟨fun hidle hdone => ?_, fun hrest => ⟨fun hfirst => ?_, fun l hfirst => ⟨fun hheld => ?_, fun hfree => ⟨fun hleg => ?_, ?_⟩⟩⟩⟩
  · exact execSlotArm_refused htakes hkind hbody (State.arm_of_not_atRest fun h => (Slot.atRest_iff.mp h).elim hidle hdone)
  · exact execSlotArm_refused htakes hkind hbody (State.arm_of_no_leg (Slot.atRest_iff.mpr hrest) hfirst)
  · exact execSlotArm_refused htakes hkind hbody
      (State.arm_of_portTaken (Slot.atRest_iff.mpr hrest) hfirst (State.portTaken_iff.mpr hheld))
  · have hfree : ¬ (s.taken rest).portTaken i (s.slot i).setup.port = true := fun h => by
      obtain ⟨p, j, hp, hj, hbound⟩ := State.portTaken_iff.mp h
      exact absurd (show (s.slot j).boundTo p = true from hbound) (by simp [hfree p j hp hj])
    exact execSlotArm_refused htakes hkind hbody (State.arm_of_not_legCheck (Slot.atRest_iff.mpr hrest) hfirst hfree hleg)
  · rintro rec hrec hcheck
    have hfree : ¬ (s.taken rest).portTaken i (s.slot i).setup.port = true := fun h => by
      obtain ⟨p, j, hp, hj, hbound⟩ := State.portTaken_iff.mp h
      exact absurd (show (s.slot j).boundTo p = true from hbound) (by simp [hfree p j hp hj])
    have harm : (s.taken rest).arm i = .ok (((s.taken rest).armed i l rec).evaluate i) :=
      State.arm_eq_armed (Slot.atRest_iff.mpr hrest) hfirst hfree hrec hcheck
    have hlink : State.evaluate { s.armed i l rec with link := (s.taken rest).link } i = _ :=
      (s.armed i l rec).evaluate_link (s.taken rest).link i
    exact ⟨execSlotArm_taken (u := { (s.armed i l rec).evaluate i with link := (s.taken rest).link }) htakes hkind hbody
      (harm.trans (congrArg Except.ok hlink)), State.evaluate_armed⟩

end Sys2Proof
end

section
/-! # SLOT_QUERY (O33) -/

namespace Sys2Proof.Machine

/-- The 23 bytes that every slot record begins with (R199). -/
def Slot.fixedBytes (x : Slot) : List Byte :=
  x.setup.bytes ++ [x.standing.code] ++ leBytes 1 x.flags ++ leBytes 1 x.credits ++ leBytes 2 x.src.toNat
    ++ leBytes 2 x.dst.toNat ++ leBytes 2 x.remaining ++ leBytes 1 x.element ++ wordBytes x.digest
    ++ leBytes 2 (x.timer.getD 0)

/-- The bytes after them: CURRENT-LEG and the fault record, each where it is present (R199). -/
def Slot.optionalBytes (x : Slot) : List Byte :=
  (x.currentLeg.elim [] fun l => leBytes 2 l.val) ++ x.faultRecord.elim [] FaultRecord.bytes

theorem Slot.bytes_eq (x : Slot) : x.bytes = x.fixedBytes ++ x.optionalBytes := by
  unfold Slot.bytes Slot.optionalBytes
  rw [List.append_assoc]
  cases x.currentLeg <;> cases x.faultRecord <;> rfl

theorem length_portOrNoneBytes (p : Option PortIx) : (portOrNoneBytes p).length = 1 := by
  cases p <;> rfl

theorem Slot.length_fixedBytes (x : Slot) : x.fixedBytes.length = 23 := by
  simp [Slot.fixedBytes, Setup.bytes, wordBytes, length_portOrNoneBytes, length_legOrNoneBytes]

theorem Slot.take_bytes (x : Slot) : x.bytes.take 23 = x.fixedBytes := by
  rw [x.bytes_eq, List.take_left' x.length_fixedBytes]

theorem Slot.drop_bytes (x : Slot) : x.bytes.drop 23 = x.optionalBytes := by
  rw [x.bytes_eq, List.drop_left' x.length_fixedBytes]

end Sys2Proof.Machine

namespace Sys2Proof

open Machine

/-- Settles O33: the reply carries the record of the slot, whose bytes are the fixed part and then what is present. -/
theorem slotQueryReturnsTheRecord : Obligations.SlotQueryReturnsTheRecord := by
  refine ⟨fun s r rest n htakes hkind hn hbody => ?_, fun x => x.take_bytes.trans ?_, fun x => x.drop_bytes.trans ?_⟩
  · obtain ⟨hcheck, hindex⟩ := slotBody (k := .slotQuery) rfl rfl hn hbody
    show execSlotQuery s = _
    split
    · next hlt =>
      exact State.slotRow_of_val (i := ⟨n, hlt⟩) (u := s.taken rest) (rep := Reply.okWith (s.slot ⟨n, hlt⟩).bytes)
        htakes hkind hcheck hindex rfl rfl rfl
    · next hlt => exact State.slotRow_of_not_lt htakes hkind hcheck hindex hlt _
  · rfl
  · obtain ⟨setup, standing⟩ := x
    cases standing with
    | idle => rfl
    | done => rfl
    | inLeg l st =>
      cases st with
      | faulted f =>
        obtain ⟨cause⟩ := f
        cases cause <;> rfl
      | _ => rfl

end Sys2Proof
end

section
/-! # SLOT_RESUME (O30) -/

namespace Sys2Proof.Machine

variable {s u t : State} {r : Request} {rest : List Request} {i : SlotIx} {l : LegIx} {x : Slot}

theorem Slot.isActive_iff : x.isActive = true ↔ ∃ l, x.standing = .inLeg l .active := by
  unfold Slot.isActive
  split <;> simp_all

theorem Slot.isArmed_iff : x.isArmed = true ↔ ∃ l, x.standing = .inLeg l .armed := by
  unfold Slot.isArmed
  split <;> simp_all

theorem Slot.isReady_iff : x.isReady = true ↔ ∃ l, x.standing = .inLeg l .ready := by
  unfold Slot.isReady
  split <;> simp_all

theorem Slot.timer_isSome_iff : x.timer.isSome = true ↔ ∃ l n, x.standing = .inLeg l (.paced n) := by
  unfold Slot.timer
  split <;> simp_all

/-! ## Resuming a FAULTED slot -/

theorem State.resumeFaulted_of_burst {c : FaultCause} (hc : c.resumePoint = .burst) :
    s.resumeFaulted i l c =
      if s.legCheck (s.slot i).setup.port l then .done ((s.setLegState i l .armed).evaluate i) else .refused := by
  cases c with
  | digest _ _ => cases hc
  | leg => cases hc
  | _ => rfl

theorem State.resumeFaulted_of_legEnd {c : FaultCause} {rec : LegRecord} (hc : c.resumePoint = .legEnd)
    (hrec : (s.leg l).record = some rec) :
    s.resumeFaulted i l c = .done (if c = .leg then s.legEndStep3 i l rec false else s.legEndStep2 i l rec false) := by
  cases c with
  | digest _ _ => simp only [State.resumeFaulted, hrec, reduceCtorEq, if_false]
  | leg => simp only [State.resumeFaulted, hrec, if_true]
  | _ => cases hc

/-! ## The rows of a resume that is taken -/

theorem State.answer_bare {st : Status} :
    (s.taken rest).answer r (Reply.bare st) = { s with link := replied s.link r rest st [] } :=
  State.answer_of_taken rfl _

/-- The answer to a resume that leaves t, made from the state in which the request has been taken (R43). -/
theorem State.answer_resumeReply (t : State) (hu : u = { t with link := (s.taken rest).link }) :
    u.answer r (u.resumeReply i) = { t with link := replied s.link r rest .ok [(t.slot i).standing.code] } := by
  subst hu
  exact State.answer_of_taken (u := { t with link := (s.taken rest).link }) rfl _

/-- A request for slot i passes the body checks and names i (R186, R199). -/
theorem slotIndex (k : ReqKind) (hflags : k.flagsByte? = none) (hlen : k.lengthOk 1 = true) (hbody : r.body = leBytes 1 i.val) :
    bodyRefusal? k r.body = none ∧ index? 16 (fieldAt r.body 0 1) = some i := by
  obtain ⟨hcheck, hindex⟩ := slotBody hflags hlen (by omega) hbody
  exact ⟨hcheck, index?_eq_some.mpr hindex⟩

section
variable (htakes : Takes s r rest) (hkind : r.kind = .slotResume)
include htakes hkind

/-- A slot number above 15 is refused (R43). -/
theorem execSlotResume_range {n : Nat} (hn : n < 256) (hlt : ¬ n < 16) (hbody : r.body = leBytes 1 n) :
    execSlotResume s = .next { s with link := replied s.link r rest .range [] } := by
  obtain ⟨hcheck, hindex⟩ := slotBody (k := .slotResume) rfl rfl hn hbody
  rw [execSlotResume, State.serve_of_takes htakes hkind hcheck, hindex, index?_of_not_lt hlt]
  exact congrArg Host.Outcome.next State.answer_bare

variable (hbody : r.body = leBytes 1 i.val)
include hbody

theorem execSlotResume_held (h : (s.slot i).standing = .inLeg l .held) (ht : (s.setLegState i l .armed).evaluate i = t) :
    execSlotResume s = .next { t with link := replied s.link r rest .ok [(t.slot i).standing.code] } := by
  obtain ⟨hcheck, hindex⟩ := slotIndex .slotResume rfl rfl hbody
  have hst : ((s.taken rest).slot i).standing = .inLeg l .held := h
  have hu : ((s.taken rest).setLegState i l .armed).evaluate i = { t with link := (s.taken rest).link } :=
    ht ▸ (s.setLegState i l .armed).evaluate_link (s.taken rest).link i
  rw [execSlotResume, State.serve_of_takes htakes hkind hcheck]
  simp only [hindex, hst]
  exact congrArg Host.Outcome.next (State.answer_resumeReply t hu)

theorem execSlotResume_inBurst (h : (s.slot i).isActive = true ∨ (s.slot i).isSuspended = true)
    (hrequested : (s.slot i).holdRequested = true) (ht : (s.updSlot i fun x => { x with holdRequested := false }) = t) :
    execSlotResume s = .next { t with link := replied s.link r rest .ok [(t.slot i).standing.code] } := by
  obtain ⟨hcheck, hindex⟩ := slotIndex .slotResume rfl rfl hbody
  have hrequested : ((s.taken rest).slot i).holdRequested = true := hrequested
  subst ht
  rw [execSlotResume, State.serve_of_takes htakes hkind hcheck]
  rcases h with h | h
  · obtain ⟨l, hst⟩ : ∃ l, ((s.taken rest).slot i).standing = .inLeg l .active := Slot.isActive_iff.mp h
    simp only [hindex, hst, hrequested, if_true]
    exact congrArg Host.Outcome.next (State.answer_resumeReply _ rfl)
  · obtain ⟨l, hst⟩ : ∃ l, ((s.taken rest).slot i).standing = .inLeg l .suspended := Slot.isSuspended_iff.mp h
    simp only [hindex, hst, hrequested, if_true]
    exact congrArg Host.Outcome.next (State.answer_resumeReply _ rfl)

/-- A resume has nothing to do: no hold is requested of a slot in a burst, or the slot stands where a resume is refused (R43). -/
theorem execSlotResume_state
    (h : (∃ l, ((s.slot i).standing = .inLeg l .active ∨ (s.slot i).standing = .inLeg l .suspended) ∧
        (s.slot i).holdRequested = false) ∨
      (s.slot i).standing = .idle ∨ (s.slot i).standing = .done ∨
      ∃ l st, (s.slot i).standing = .inLeg l st ∧ (st = .armed ∨ st = .ready ∨ ∃ n, st = .paced n)) :
    execSlotResume s = .next { s with link := replied s.link r rest .state [] } := by
  obtain ⟨hcheck, hindex⟩ := slotIndex .slotResume rfl rfl hbody
  have hslot : (s.taken rest).slot i = s.slot i := rfl
  rw [execSlotResume, State.serve_of_takes htakes hkind hcheck]
  simp only [hindex, hslot]
  rcases h with ⟨l, hst | hst, hrequested⟩ | hst | hst | ⟨l, st, hst, rfl | rfl | ⟨n, rfl⟩⟩
  · simp only [hst, hrequested, Bool.false_eq_true, if_false, State.answer_bare]
  · simp only [hst, hrequested, Bool.false_eq_true, if_false, State.answer_bare]
  all_goals simp only [hst, State.answer_bare]

section
variable {f : FaultRecord} (h : (s.slot i).standing = .inLeg l (.faulted f))
include h

theorem execSlotResume_faulted_done (hresume : (s.taken rest).resumeFaulted i l f.cause = .done u)
    (hu : u.link = (s.taken rest).link) :
    execSlotResume s = .next { u with link := replied s.link r rest .ok [(u.slot i).standing.code] } := by
  obtain ⟨hcheck, hindex⟩ := slotIndex .slotResume rfl rfl hbody
  have hst : ((s.taken rest).slot i).standing = .inLeg l (.faulted f) := h
  rw [execSlotResume, State.serve_of_takes htakes hkind hcheck]
  simp only [hindex, hst, hresume]
  exact congrArg Host.Outcome.next (State.answer_of_taken hu _)

theorem execSlotResume_faulted_refused (hresume : (s.taken rest).resumeFaulted i l f.cause = .refused) :
    execSlotResume s = .next { s with link := replied s.link r rest .leg [] } := by
  obtain ⟨hcheck, hindex⟩ := slotIndex .slotResume rfl rfl hbody
  have hst : ((s.taken rest).slot i).standing = .inLeg l (.faulted f) := h
  rw [execSlotResume, State.serve_of_takes htakes hkind hcheck]
  simp only [hindex, hst, hresume, State.answer_bare]

end

end

end Sys2Proof.Machine

namespace Sys2Proof

open Machine

/-- Settles O30: the resume in each state of the slot, and that of a fault at LEG-END. -/
theorem slotResumeActsByTheState : Obligations.SlotResumeActsByTheState := by
  refine ⟨fun s r rest n htakes hkind hn hbody => ⟨fun hge => ?_, ?_⟩, fun s r rest i l f rec htakes hkind hbody h hrec hpoint => ?_⟩
  · exact execSlotResume_range htakes hkind hn (by omega) hbody
  · rintro i rfl
    refine ⟨fun l h => ?_, fun h => ?_, fun l f h hpoint => ?_, fun h => ?_⟩
    · exact execSlotResume_held htakes hkind hbody h rfl
    · show execSlotResume s = _
      split
      · next hrequested => exact execSlotResume_inBurst htakes hkind hbody h hrequested rfl
      · next hrequested =>
        rw [Slot.isActive_iff, Slot.isSuspended_iff, ← exists_or] at h
        obtain ⟨l, h⟩ := h
        exact execSlotResume_state htakes hkind hbody (.inl ⟨l, h, by simpa using hrequested⟩)
    · have hresume : (s.taken rest).resumeFaulted i l f.cause = _ := State.resumeFaulted_of_burst hpoint
      show execSlotResume s = _
      split
      · next hcheck =>
        have hlink : (State.setLegState (s.taken rest) i l .armed).evaluate i = _ :=
          (s.setLegState i l .armed).evaluate_link (s.taken rest).link i
        exact execSlotResume_faulted_done (u := { (s.setLegState i l .armed).evaluate i with link := (s.taken rest).link })
          htakes hkind hbody h ((hresume.trans (if_pos hcheck)).trans (congrArg Resumed.done hlink)) rfl
      · next hcheck => exact execSlotResume_faulted_refused htakes hkind hbody h (hresume.trans (if_neg hcheck))
    · refine execSlotResume_state htakes hkind hbody (.inr ?_)
      rw [Slot.isArmed_iff, Slot.isReady_iff, Slot.timer_isSome_iff] at h
      rcases h with h | h | ⟨l, h⟩ | ⟨l, h⟩ | ⟨l, n, h⟩
      · exact .inl h
      · exact .inr (.inl h)
      · exact .inr (.inr ⟨l, _, h, .inl rfl⟩)
      · exact .inr (.inr ⟨l, _, h, .inr (.inl rfl)⟩)
      · exact .inr (.inr ⟨l, _, h, .inr (.inr ⟨n, rfl⟩)⟩)
  · have hresume : (s.taken rest).resumeFaulted i l f.cause = _ := State.resumeFaulted_of_legEnd hpoint hrec
    refine execSlotResume_faulted_done htakes hkind hbody h hresume ?_
    split
    · exact (State.legEndStep3_frame ..).2.1
    · exact (State.legEndStep2_frame ..).2.1

end Sys2Proof
end

section
/-! # SLOT_CANCEL (O32) -/

namespace Sys2Proof.Machine

variable {s u t : State} {r : Request} {rest : List Request} {i : SlotIx} {l : LegIx} {st : LegState} {snap : Snapshot}
  {rec : LegRecord} {above below : List Suspended}

/-! ## The cancel in each state of the slot -/

/-- The words of an abandoned burst are given back or discarded at the leg's port, and nothing else changes (R67). -/
theorem State.settleBack_eq (hrec : (s.leg l).record = some rec) : s.settleBack l = { s with ports := portsSettledBack s rec } := by
  have hport : s.legPort l = rec.srcPort.or rec.dstPort := by simp only [State.legPort, hrec]
  unfold State.settleBack portsSettledBack
  rw [hport]
  cases rec.srcPort.or rec.dstPort <;> rfl

/-- A cancel leaves the slot's context, gives the pin up and reports the leg (R44). -/
theorem State.idleFrom_eq (s : State) (i : SlotIx) (l : LegIx) (element : Nat) :
    s.idleFrom i l element =
      { s with
        slots := s.slots.set i (s.slot i).cancelled
        legs := s.legs.set l { s.leg l with pins := (s.leg l).pins - 1 }
        reports := s.reports.take (.cancelled i (some l) (s.slot i).remaining element) } := rfl

theorem State.cancelAtOnce_of_done (h : (s.slot i).standing = .done) :
    s.cancelAtOnce i =
      { s with slots := s.slots.set i (s.slot i).cancelled, reports := s.reports.take (.cancelled i none 0 0) } := by
  simp only [State.cancelAtOnce, h]
  rfl

theorem State.cancelAtOnce_of_inLeg (h : (s.slot i).standing = .inLeg l st) (hst : st ≠ .suspended) :
    s.cancelAtOnce i = s.idleFrom i l 0 := by
  cases st with
  | suspended => exact absurd rfl hst
  | _ => simp only [State.cancelAtOnce, h]

theorem State.rollback_eq (hrec : (s.leg l).record = some rec) :
    s.rollback i l snap =
      { s with slots := s.slots.set i ((s.slot i).rolledBack snap), ports := portsSettledBack s rec } :=
  State.settleBack_eq (s := s.updSlot i fun x => x.rolledBack snap) hrec

/-- A slot set twice holds what it was set to the second time. -/
theorem State.slots_set_twice {x : Slot} (hslots : t.slots = s.slots.set i x) (f : Slot → Slot) :
    t.slots.set i (f (t.slot i)) = s.slots.set i (f x) := by
  have hslot : t.slot i = x := by simp only [State.slot, hslots, Vector.get_set_fin, if_true]
  rw [hslot, hslots, Vector.set_set]

/-- The slot after the rollback and the cancel of its burst: IDLE, at the snapshot's addresses and digest (R45, R67). -/
def Slot.abandoned (x : Slot) (snap : Snapshot) : Slot :=
  { x with
    standing := .idle, src := snap.src, dst := snap.dst, digest := snap.digest, element := 0, credits := 0
    legRun := false, holdRequested := false }

/-- The rollback and the cancel together: the addresses and the digest are those of the snapshot (R67, R45). -/
theorem State.idleFrom_rollback (hrec : (s.leg l).record = some rec) (element : Nat) :
    (s.rollback i l snap).idleFrom i l element =
      { s with
        slots := s.slots.set i ((s.slot i).abandoned snap)
        legs := s.legs.set l { s.leg l with pins := (s.leg l).pins - 1 }
        ports := portsSettledBack s rec
        reports := s.reports.take (.cancelled i (some l) (s.slot i).remaining element) } := by
  have hremaining : ((s.rollback i l snap).slot i).remaining = (s.slot i).remaining := by
    rw [State.rollback_eq hrec]
    simp [State.slot, Vector.get_set_fin, Slot.rolledBack]
  have hslots : (s.rollback i l snap).slots = s.slots.set i ((s.slot i).rolledBack snap) := congrArg State.slots (State.rollback_eq hrec)
  rw [State.idleFrom_eq, hremaining, State.slots_set_twice hslots Slot.cancelled, State.rollback_eq hrec]
  exact State.eq_of_blocks rfl rfl rfl rfl rfl rfl rfl rfl rfl rfl rfl rfl rfl

/-- A slot's snapshot, and the others in their order, where the slot stands once on the stack (R85). -/
theorem State.stackSnapshot_of_mid (hstack : s.arb.stack = above ++ { slot := i, snapshot := snap } :: below)
    (habove : ∀ e ∈ above, e.slot ≠ i) : s.stackSnapshot i = some snap := by
  have hnone : above.find? (fun e => decide (e.slot = i)) = none :=
    List.find?_eq_none.mpr fun e he => by simpa using habove e he
  rw [State.stackSnapshot, hstack, List.find?_append, hnone, List.find?_cons_of_pos (by simp)]
  rfl

theorem filter_stack_of_mid (habove : ∀ e ∈ above, e.slot ≠ i) (hbelow : ∀ e ∈ below, e.slot ≠ i) :
    (above ++ { slot := i, snapshot := snap } :: below).filter (fun e => decide (e.slot ≠ i)) = above ++ below := by
  have hkeep {st : List Suspended} (h : ∀ e ∈ st, e.slot ≠ i) : st.filter (fun e => decide (e.slot ≠ i)) = st :=
    List.filter_eq_self.mpr fun e he => decide_eq_true (h e he)
  rw [List.filter_append, List.filter_cons_of_neg (by simp), hkeep habove, hkeep hbelow]

theorem State.cancelAtOnce_of_suspended (h : (s.slot i).standing = .inLeg l .suspended)
    (hstack : s.arb.stack = above ++ { slot := i, snapshot := snap } :: below)
    (habove : ∀ e ∈ above, e.slot ≠ i) (hbelow : ∀ e ∈ below, e.slot ≠ i) (hrec : (s.leg l).record = some rec) :
    s.cancelAtOnce i =
      { s with
        slots := s.slots.set i ((s.slot i).abandoned snap)
        legs := s.legs.set l { s.leg l with pins := (s.leg l).pins - 1 }
        arb := { s.arb with stack := above ++ below }
        ports := portsSettledBack s rec
        reports := s.reports.take (.cancelled i (some l) (s.slot i).remaining (s.slot i).element) } := by
  have hstep : s.cancelAtOnce i =
      ((s.rollback i l snap).setStack (above ++ below)).idleFrom i l (s.slot i).element := by
    simp only [State.cancelAtOnce, h, State.cancelSuspended, State.stackSnapshot_of_mid hstack habove]
    rw [hstack, filter_stack_of_mid habove hbelow]
  exact hstep.trans (congrArg (State.setStack · (above ++ below)) (State.idleFrom_rollback hrec (s.slot i).element))

/-! ## The rows of the request -/

section
variable (htakes : Takes s r rest) (hkind : r.kind = .slotCancel)
include htakes hkind

/-- A slot number above 15 is refused (R44). -/
theorem execSlotCancel_range {n : Nat} (hn : n < 256) (hlt : ¬ n < 16) (hbody : r.body = leBytes 1 n) :
    execSlotCancel s = .next { s with link := replied s.link r rest .range [] } := by
  obtain ⟨hcheck, hindex⟩ := slotBody (k := .slotCancel) rfl rfl hn hbody
  rw [execSlotCancel, State.serve_of_takes htakes hkind hcheck, hindex, index?_of_not_lt hlt]
  exact congrArg Host.Outcome.next State.answer_bare

variable (hbody : r.body = leBytes 1 i.val)
include hbody

theorem execSlotCancel_idle (h : (s.slot i).standing = .idle) :
    execSlotCancel s = .next { s with link := replied s.link r rest .state [] } := by
  obtain ⟨hcheck, hindex⟩ := slotIndex .slotCancel rfl rfl hbody
  have hst : ((s.taken rest).slot i).standing = .idle := h
  rw [execSlotCancel, State.serve_of_takes htakes hkind hcheck]
  simp only [hindex, hst, State.answer_bare]

/-- The request waits for the element in flight (R45). -/
theorem execSlotCancel_active (h : (s.slot i).standing = .inLeg l .active) :
    execSlotCancel s = .next { s with link := waiting s.link r rest (.cancel i) s.reports.queue.length } := by
  obtain ⟨hcheck, hindex⟩ := slotIndex .slotCancel rfl rfl hbody
  have hst : ((s.taken rest).slot i).standing = .inLeg l .active := h
  rw [execSlotCancel, State.serve_of_takes htakes hkind hcheck]
  simp only [hindex, hst]
  exact congrArg Host.Outcome.next (State.eq_of_blocks rfl rfl rfl rfl rfl rfl rfl rfl rfl rfl rfl rfl rfl)

/-- In every other state the cancel acts at once (R44). -/
theorem execSlotCancel_atOnce (hidle : (s.slot i).standing ≠ .idle) (hactive : ∀ l, (s.slot i).standing ≠ .inLeg l .active)
    (hcancel : (s.taken rest).cancelAtOnce i = u) (hu : u.link = (s.taken rest).link) :
    execSlotCancel s = .next { u with link := replied s.link r rest .ok [] } := by
  obtain ⟨hcheck, hindex⟩ := slotIndex .slotCancel rfl rfl hbody
  have hslot : (s.taken rest).slot i = s.slot i := rfl
  have hanswer : ((s.taken rest).cancelAtOnce i).answer r (Reply.bare .ok) = { u with link := replied s.link r rest .ok [] } :=
    hcancel ▸ State.answer_of_taken hu _
  rw [execSlotCancel, State.serve_of_takes htakes hkind hcheck]
  simp only [hindex, hslot]
  exact congrArg Host.Outcome.next hanswer

end

end Sys2Proof.Machine

namespace Sys2Proof

open Machine

/-- Settles O32: the cancel in each state of the slot. -/
theorem slotCancelMakesTheSlotIdle : Obligations.SlotCancelMakesTheSlotIdle := by
  intro s r rest n htakes hkind hn hbody
  refine ⟨fun hge => execSlotCancel_range htakes hkind hn (by omega) hbody, ?_⟩
  rintro i rfl
  refine ⟨fun h => ?_, fun h => ?_, fun h => ?_, fun l st h hactive hsuspended => ?_,
    fun l above below snap rec h hstack habove hbelow hrec => ?_⟩
  · exact execSlotCancel_idle htakes hkind hbody h
  · obtain ⟨l, h⟩ := Slot.isActive_iff.mp h
    exact execSlotCancel_active htakes hkind hbody h
  · exact execSlotCancel_atOnce htakes hkind hbody (by simp [h]) (by simp [h])
      (State.cancelAtOnce_of_done (s := s.taken rest) h) rfl
  · have hactive : st ≠ .active := fun hst => by simp [Slot.isActive, h, hst] at hactive
    have hsuspended : st ≠ .suspended := fun hst => by simp [Slot.isSuspended, h, hst] at hsuspended
    exact execSlotCancel_atOnce htakes hkind hbody (by simp [h]) (by simp [h, hactive])
      (State.cancelAtOnce_of_inLeg (s := s.taken rest) h hsuspended) rfl
  · exact execSlotCancel_atOnce htakes hkind hbody (by simp [h]) (by simp [h])
      (State.cancelAtOnce_of_suspended (s := s.taken rest) h hstack habove hbelow hrec) rfl

end Sys2Proof
end

section
/-! # The end of a cancelled burst (O46) -/

namespace Sys2Proof.Machine

variable {s t : State} {i : SlotIx} {l : LegIx} {r : LegRecord} {snap : Snapshot} {x : Slot} {w : Word} {c n k : Nat}
  {cause : FaultCause} {e : Executing} {fences : Vector Fence 8}

/-! ## The checks and the read of an element (R53, R54) -/

theorem sourceDenied?_of_readable (h : ∀ p, r.src = .buffer p → moverMayRead fences x.src = true) :
    sourceDenied? fences r x = none := by
  unfold sourceDenied?
  split
  · next p hsrc => rw [if_pos (h p hsrc)]
  · rfl

theorem destDenied?_of_writable (h : ∀ p, r.dst = .buffer p → moverMayWrite fences x.dst = true) :
    destDenied? fences r x = none := by
  unfold destDenied?
  split
  · next p hdst => rw [if_pos (h p hdst)]
  · rfl

/-- The part once the word of an element has been read: a word of an inbound port is tentative (R54). -/
def State.wordRead (s : State) (r : LegRecord) : State :=
  r.srcPort.elim s fun p => s.updPort p fun q => { q with tentative := q.tentative + 1 }

theorem State.elementRead_of_obtains (h : Obtains s r x w) : s.elementRead r x = .word w (s.wordRead r) := by
  unfold Obtains at h
  unfold State.elementRead State.wordRead LegRecord.srcPort
  cases hsrc : r.src with
  | buffer p =>
    simp only [hsrc] at h
    simp only [h, Option.elim_none]
  | port p =>
    simp only [hsrc] at h
    obtain ⟨hdir, hword⟩ := h
    simp only [Port.nextTentative?, hdir, hword, Option.elim_some]
  | const v =>
    simp only [hsrc] at h
    simp only [h, Option.elim_none]

/-- The part once the word has been put at its destination (R55). -/
def State.wordWritten (s : State) (r : LegRecord) (x : Slot) (w : Word) : State :=
  r.dstPort.elim (s.writeWord x.dst w) fun p => s.updPort p fun q => { q with fifo := q.fifo ++ [w], staged := q.staged + 1 }

theorem State.elementWrite_of_hasRoom (h : HasRoom s r) : s.elementWrite r x w = .ok (s.wordWritten r x w) := by
  unfold State.elementWrite State.wordWritten LegRecord.dstPort
  cases hdst : r.dst with
  | buffer p => rfl
  | port p =>
    have hplace : (s.port p).hasPlace = true := by simp [Port.hasPlace, Config.fifoCap, h p hdst]
    simp only [hplace, if_true, Option.elim_some]

/-- The destination port's words do not change by the read: an inbound port is no destination (R4, R55). -/
theorem State.port_wordRead {p : PortIx} (hobtains : Obtains s r x w) (hroom : HasRoom s r) (hdst : r.dst = .port p) :
    (s.wordRead r).port p = s.port p := by
  obtain ⟨hout, -⟩ := hroom p hdst
  unfold State.wordRead
  cases hsrc : r.srcPort with
  | none => rfl
  | some q =>
    rw [LegRecord.srcPort_eq_some] at hsrc
    simp only [Obtains, hsrc] at hobtains
    have hne : q ≠ p := by
      rintro rfl
      simp [hout] at hobtains
    rw [Option.elim_some]
    exact State.port_updPort_ne s hne _

/-! ## The six steps together -/

theorem State.giveBackGrant_eq (s : State) (r : LegRecord) : s.giveBackGrant r = { s with bufArb := grantPassedOn r s.bufArb } := by
  unfold State.giveBackGrant grantPassedOn BufArbiter.elementDone
  split
  · cases h : s.bufArb.waiting with
    | none => simp
    | some a => cases a <;> simp
  · rfl

theorem State.elementSteps_of_moves (hperm : Permitted s k r (s.slot i)) (hobtains : Obtains s r (s.slot i) w) (hroom : HasRoom s r) :
    s.elementSteps (s.elementFences k) i r =
      .moved (((s.wordRead r).wordWritten r (s.slot i) w).updSlot i fun x => x.stepped r w) := by
  have hroom' : HasRoom (s.wordRead r) r := fun p hdst => by
    rw [State.port_wordRead hobtains hroom hdst]
    exact hroom p hdst
  simp only [State.elementSteps, sourceDenied?_of_readable hperm.1, destDenied?_of_writable hperm.2,
    State.elementRead_of_obtains hobtains, State.elementWrite_of_hasRoom hroom']

theorem State.wordMoved_eq (hobtains : Obtains s r (s.slot i) w) (hroom : HasRoom s r) :
    State.giveBackGrant (((s.wordRead r).wordWritten r (s.slot i) w).updSlot i fun x => x.stepped r w) r = wordMoved s i r w := by
  have hport (p : PortIx) (hdst : r.dst = .port p) := State.port_wordRead hobtains hroom hdst
  rw [State.giveBackGrant_eq]
  unfold State.wordWritten wordMoved LegRecord.dstPort
  cases hdst : r.dst with
  | buffer _ =>
    unfold State.wordRead LegRecord.srcPort
    cases r.src <;> rfl
  | port p =>
    have hwritten := congrArg (fun q : Port => (s.wordRead r).ports.set p { q with fifo := q.fifo ++ [w], staged := q.staged + 1 })
      (hport p hdst)
    unfold State.wordRead LegRecord.srcPort at hwritten ⊢
    refine State.eq_of_blocks ?_ ?_ ?_ ?_ ?_ ?_ ?_ ?_ (hwritten.trans ?_) ?_ ?_ ?_ ?_
    all_goals cases r.src <;> rfl

/-! ## The completion of the element in flight -/

theorem execElement_of_inFlight (h : InFlight s i l r snap) (order : ElementOrder) :
    execElement order s = s.runElement order i l r snap := by
  obtain ⟨hrun, hmover, hst, hrec, hgrant⟩ := h
  have hwaits : s.elementWaits r = false := by
    simpa [State.elementWaits] using hgrant
  simp only [execElement, hrun, if_true, hmover, hst, hrec, hwaits, Bool.false_eq_true, if_false]

theorem execElement_of_moves (h : ElementMoves s k i l r snap w) :
    execElement ⟨c, n, k⟩ s = .next ((wordMoved s i r w).elementCompletes c n i l r snap) := by
  obtain ⟨hflight, hperm, hobtains, hroom⟩ := h
  rw [execElement_of_inFlight hflight]
  simp only [State.runElement, State.elementSteps_of_moves hperm hobtains hroom, State.wordMoved_eq hobtains hroom]

theorem State.elementSteps_of_fails (h : Fails s k r (s.slot i) cause) :
    s.elementSteps (s.elementFences k) i r = .failed cause := by
  rcases h with ⟨⟨p, hsrc⟩, hread, rfl⟩ | ⟨hread, ⟨p, hdst⟩, hwrite, rfl⟩ | ⟨hperm, ⟨p, hsrc⟩, hword, rfl⟩
  · simp only [State.elementSteps, sourceDenied?, hsrc, hread, Bool.false_eq_true, if_false]
  · simp only [State.elementSteps, sourceDenied?_of_readable hread, destDenied?, hdst, hwrite, Bool.false_eq_true, if_false]
  · simp only [State.elementSteps, sourceDenied?_of_readable hperm.1, destDenied?_of_writable hperm.2, State.elementRead, hsrc, hword]

theorem execElement_of_fails (h : InFlight s i l r snap) (hfails : Fails s k r (s.slot i) cause) :
    execElement ⟨c, n, k⟩ s =
      .next (State.elementFails { s with bufArb := grantPassedOn r s.bufArb } c n i l snap cause) := by
  rw [execElement_of_inFlight h]
  simp only [State.runElement, State.elementSteps_of_fails hfails, State.giveBackGrant_eq]

/-! ## The waiting cancel -/

/-- An answer to the executing request, with the inbox as it stands. -/
theorem State.answer_eq (s : State) (q : Request) (rep : Reply) :
    s.answer q rep = { s with link := replied s.link q s.link.inbox rep.status rep.data } :=
  State.answer_of_taken (s := s) (rest := s.link.inbox) rfl rep

theorem State.cancelWaiting_of_cancel (he : s.link.executing = some e) (hwaits : e.waits = .cancel i) :
    s.cancelWaiting = { s.cancelAtOnce i with link := replied s.link e.request s.link.inbox .ok [] } := by
  have hlink : (s.cancelAtOnce i).link = s.link := (State.cancelAtOnce_frame ..).2.1
  have hwaiting : s.cancelWaiting = (s.cancelAtOnce i).answer e.request (Reply.bare .ok) := by
    simp only [State.cancelWaiting, he, hwaits]
  rw [hwaiting, State.answer_eq, hlink]
  rfl

theorem State.resetWaits_of_cancel (he : s.link.executing = some e) (hwaits : e.waits = .cancel i) : s.resetWaits = false := by
  simp [State.resetWaits, he, hwaits]

theorem State.enterFaulted_of_no_reset (h : s.resetWaits = false) (element : Nat) :
    s.enterFaulted i l cause element =
      let f : FaultRecord := { cause := cause, leg := l, remaining := (s.slot i).remaining, element := element }
      { s with
        slots := s.slots.set i { s.slot i with standing := .inLeg l (.faulted f), holdRequested := false }
        reports := s.reports.take (.fault i f)
        events := s.events ++ [{ kind := .fault, slot := i }] } := by
  have hpass (t : State) (ht : t.resetWaits = false) :
      t.pass .fault i = { t with events := t.events ++ [{ kind := .fault, slot := i }] } := by
    simp only [State.pass, ht, Bool.false_eq_true, if_false]
  simp only [State.enterFaulted, h, Bool.false_eq_true, if_false]
  exact hpass _ h

/-! ## The completion of an element whose slot a cancel waits for -/

theorem State.elementCompletes_midBurst (h : (s.slot i).element + 1 < r.burst) :
    s.elementCompletes c n i l r snap = (s.updSlot i fun x => { x with element := x.element + 1 }).midBurst n i l snap := if_pos h

theorem State.midBurst_of_cancel (he : s.link.executing = some e) (hwaits : e.waits = .cancel i) :
    s.midBurst n i l snap = s.cancelActive n i l snap e.request := by
  simp only [State.midBurst, he, hwaits, if_true]

theorem State.endBurst_of_cancel (he : s.link.executing = some e) (hwaits : e.waits = .cancel i) :
    s.endBurst c n = s.releaseAt c n := by
  simp only [State.endBurst, he, hwaits]

/-- The cancel of the ACTIVE slot: the burst is rolled back, the slot is IDLE, and the mover stands at its release (R45, R67). -/
theorem State.cancelActive_eq (hrec : (s.leg l).record = some r) (q : Request) :
    s.cancelActive n i l snap q =
      released
        { s with
          slots := s.slots.set i ((s.slot i).abandoned snap)
          legs := s.legs.set l { s.leg l with pins := (s.leg l).pins - 1 }
          arb := { s.arb with mover := .releasing 0 0 }
          ports := portsSettledBack s r
          reports := s.reports.take (.cancelled i (some l) (s.slot i).remaining (s.slot i).element)
          link := replied s.link q s.link.inbox .ok [] } 0 n := by
  have hidle := congrArg (State.setMover · (.releasing 0 0)) (State.idleFrom_rollback (i := i) (snap := snap) hrec (s.slot i).element)
  have hanswer := congrArg (State.answer · q (Reply.bare .ok)) hidle
  exact (congrArg (released · 0 n) hanswer).trans (congrArg (released · 0 n) (State.answer_eq ..))

theorem slot_wordMoved (s : State) (i : SlotIx) (r : LegRecord) (w : Word) :
    (wordMoved s i r w).slot i = (s.slot i).stepped r w := (Vector.get_set_fin _ i i _).trans (if_pos rfl)

/-- The part once ELEMENT has risen too (R57). -/
def State.elementMoved (s : State) (i : SlotIx) (r : LegRecord) (w : Word) : State :=
  (wordMoved s i r w).updSlot i fun x => { x with element := x.element + 1 }

theorem State.slots_elementMoved :
    (s.elementMoved i r w).slots = s.slots.set i { (s.slot i).stepped r w with element := (s.slot i).element + 1 } :=
  State.slots_set_twice (s := s) (t := wordMoved s i r w) rfl fun x => { x with element := x.element + 1 }

theorem State.slot_elementMoved :
    (s.elementMoved i r w).slot i = { (s.slot i).stepped r w with element := (s.slot i).element + 1 } := by
  simp only [State.slot, State.slots_elementMoved, Vector.get_set_fin, if_true]

theorem State.elementCompletes_of_cancel (he : s.link.executing = some e) (hwaits : e.waits = .cancel i)
    (hrec : (s.leg l).record = some r) (hmore : (s.slot i).element + 1 < r.burst) :
    (wordMoved s i r w).elementCompletes c n i l r snap =
      released
        { wordMoved s i r w with
          slots := s.slots.set i ((s.slot i).abandoned snap)
          legs := s.legs.set l { s.leg l with pins := (s.leg l).pins - 1 }
          arb := { s.arb with mover := .releasing 0 0 }
          ports := portsSettledBack (wordMoved s i r w) r
          reports := s.reports.take (.cancelled i (some l) (s.slot i).remaining ((s.slot i).element + 1))
          link := replied s.link e.request s.link.inbox .ok [] } 0 n := by
  have hmoved : ((wordMoved s i r w).slot i).element + 1 < r.burst := by
    rw [slot_wordMoved]
    exact hmore
  have hslots := State.slots_set_twice (s := s) (i := i) (t := s.elementMoved i r w) State.slots_elementMoved (Slot.abandoned · snap)
  have hreports := congrArg (fun x : Slot => s.reports.take (.cancelled i (some l) x.remaining x.element))
    (State.slot_elementMoved (s := s) (i := i) (r := r) (w := w))
  refine (State.elementCompletes_midBurst hmoved).trans ((State.midBurst_of_cancel (s := s.elementMoved i r w) he hwaits).trans
    ((State.cancelActive_eq (s := s.elementMoved i r w) hrec e.request).trans (congrArg (released · 0 n) ?_)))
  exact State.eq_of_blocks rfl rfl rfl hslots rfl rfl rfl rfl rfl rfl rfl hreports rfl

/-! ## An element that fails while a cancel waits -/

/-- The slot of a failed element: rolled back, and FAULTED (R67, R92). -/
def Slot.faulted (x : Slot) (snap : Snapshot) (l : LegIx) (f : FaultRecord) : Slot :=
  { x.rolledBack snap with standing := .inLeg l (.faulted f), holdRequested := false }

/-- The part once the burst of slot i, in a leg with record r, is rolled back and the mover stands at its release (R67). -/
def State.burstRolledBack (s : State) (i : SlotIx) (r : LegRecord) (snap : Snapshot) : State :=
  { s with
    slots := s.slots.set i ((s.slot i).rolledBack snap)
    arb := { s.arb with mover := .releasing 0 0 }
    ports := portsSettledBack s r }

/-- The part once slot i is FAULTED as well, with its report and event (R92). -/
def State.burstFaulted (s : State) (i : SlotIx) (l : LegIx) (r : LegRecord) (snap : Snapshot) (f : FaultRecord) : State :=
  { s.burstRolledBack i r snap with
    slots := s.slots.set i ((s.slot i).faulted snap l f)
    reports := s.reports.take (.fault i f)
    events := s.events ++ [{ kind := .fault, slot := i }] }

theorem State.setMover_rollback (hrec : (s.leg l).record = some r) :
    (s.rollback i l snap).setMover (.releasing 0 0) = s.burstRolledBack i r snap :=
  congrArg (State.setMover · _) (State.rollback_eq hrec)

theorem State.slot_burstRolledBack : (s.burstRolledBack i r snap).slot i = (s.slot i).rolledBack snap :=
  (Vector.get_set_fin _ i i _).trans (if_pos rfl)

theorem State.slot_burstFaulted {f : FaultRecord} : (s.burstFaulted i l r snap f).slot i = (s.slot i).faulted snap l f :=
  (Vector.get_set_fin _ i i _).trans (if_pos rfl)

theorem State.enterFaulted_burstRolledBack (hreset : s.resetWaits = false) (element : Nat) :
    (s.burstRolledBack i r snap).enterFaulted i l cause element =
      s.burstFaulted i l r snap { cause := cause, leg := l, remaining := (s.slot i).remaining, element := element } := by
  rw [State.enterFaulted_of_no_reset (s := s.burstRolledBack i r snap) hreset, State.slot_burstRolledBack]
  exact State.eq_of_blocks rfl rfl rfl (Vector.set_set (hi := i.isLt) ..) rfl rfl rfl rfl rfl rfl rfl rfl rfl

/-- The cancel that finds the slot FAULTED leaves it IDLE and reports element index 0 (R45). -/
theorem State.cancelAtOnce_burstFaulted {f : FaultRecord} :
    (s.burstFaulted i l r snap f).cancelAtOnce i =
      { s.burstFaulted i l r snap f with
        slots := s.slots.set i ((s.slot i).abandoned snap)
        legs := s.legs.set l { s.leg l with pins := (s.leg l).pins - 1 }
        reports := (s.reports.take (.fault i f)).take (.cancelled i (some l) (s.slot i).remaining 0) } := by
  have hst : ((s.burstFaulted i l r snap f).slot i).standing = .inLeg l (.faulted f) := by
    rw [State.slot_burstFaulted]
    rfl
  have hslots : (s.burstFaulted i l r snap f).slots.set i ((s.burstFaulted i l r snap f).slot i).cancelled = _ :=
    State.slots_set_twice (s := s) rfl Slot.cancelled
  rw [State.cancelAtOnce_of_inLeg hst (by simp), State.idleFrom_eq, hslots, State.slot_burstFaulted]
  exact State.eq_of_blocks rfl rfl rfl rfl rfl rfl rfl rfl rfl rfl rfl rfl rfl

/-- The fault, and then in the same step the cancel and the selection (R45, R92). -/
theorem State.elementFails_of_cancel (he : s.link.executing = some e) (hwaits : e.waits = .cancel i)
    (hrec : (s.leg l).record = some r) :
    let f : FaultRecord := { cause := cause, leg := l, remaining := (s.slot i).remaining, element := (s.slot i).element }
    s.elementFails 0 0 i l snap cause =
      State.select
        { s.burstFaulted i l r snap f with
          slots := s.slots.set i ((s.slot i).abandoned snap)
          legs := s.legs.set l { s.leg l with pins := (s.leg l).pins - 1 }
          reports := (s.reports.take (.fault i f)).take (.cancelled i (some l) (s.slot i).remaining 0)
          link := replied s.link e.request s.link.inbox .ok [] } := by
  intro f
  have hcancel : (s.burstFaulted i l r snap f).cancelWaiting = _ :=
    State.cancelWaiting_of_cancel (s := s.burstFaulted i l r snap f) he hwaits
  rw [State.cancelAtOnce_burstFaulted] at hcancel
  calc s.elementFails 0 0 i l snap cause
      = (s.burstFaulted i l r snap f).endBurst 0 0 := by
        rw [State.elementFails, State.setMover_rollback hrec,
          State.enterFaulted_burstRolledBack (State.resetWaits_of_cancel he hwaits)]
    _ = (s.burstFaulted i l r snap f).cancelWaiting.select :=
        State.endBurst_of_cancel (s := s.burstFaulted i l r snap f) he hwaits
    _ = _ := congrArg State.select hcancel

end Sys2Proof.Machine

namespace Sys2Proof

open Machine

/-- Settles O46: the waiting cancel at an element that moves its word, at one that fails, at a commit's end and at a release. -/
theorem waitingCancelTakesTheActiveSlot : Obligations.WaitingCancelTakesTheActiveSlot := by
  refine ⟨fun s c n k i l r snap w e hmoves he hwaits hmore => ?_, fun s k i l r snap cause e hflight he hwaits hfails => ?_,
    fun t e i he hwaits => ⟨fun l st h hactive hsuspended => ?_, fun h => ?_⟩, fun t hnone => ?_, fun s c n o hrun hmover => ?_⟩
  · obtain ⟨⟨-, -, -, hrec, -⟩, -⟩ := id hmoves
    exact (execElement_of_moves hmoves).trans
      (congrArg Host.Outcome.next (State.elementCompletes_of_cancel he hwaits hrec hmore))
  · obtain ⟨-, -, -, hrec, -⟩ := id hflight
    exact (execElement_of_fails hflight hfails).trans
      (congrArg Host.Outcome.next (State.elementFails_of_cancel (s := { s with bufArb := grantPassedOn r s.bufArb }) he hwaits hrec))
  · rw [State.cancelWaiting_of_cancel he hwaits, State.cancelAtOnce_of_inLeg h hsuspended]
    exact State.eq_of_blocks rfl rfl rfl rfl rfl rfl rfl rfl rfl rfl rfl rfl rfl
  · rw [State.cancelWaiting_of_cancel he hwaits, State.cancelAtOnce_of_done h]
    exact State.eq_of_blocks rfl rfl rfl rfl rfl rfl rfl rfl rfl rfl rfl rfl rfl
  · rcases t.cancelWaiting_cases with ⟨e, i, he, hwaits, -⟩ | ⟨-, hsame⟩
    · exact absurd hwaits (hnone e i he)
    · exact hsame
  · show execElement o s = _
    have hrelease : execElement o s = .next s.release := by simp only [execElement, hrun, if_true, hmover]
    exact hrelease

end Sys2Proof
end

section
/-! # An element that fails (O47) -/

namespace Sys2Proof.Machine

variable {s : State} {i : SlotIx} {l : LegIx} {r : LegRecord} {snap : Snapshot} {c n : Nat} {cause : FaultCause}

/-- Where no ENGINE-RESET waits, a burst's end is its release (R193, R45, R81). -/
theorem State.endBurst_of_no_reset (h : s.resetWaits = false) : s.endBurst c n = released s c n := by
  unfold State.resetWaits at h
  unfold State.endBurst
  cases he : s.link.executing with
  | none => rfl
  | some e =>
    have hne : e.waits ≠ .engineReset := by simpa [he] using h
    cases hwaits : e.waits with
    | engineReset => exact absurd hwaits hne
    | cancel _ | hostBlock =>
      simp only [hwaits]
      rfl

/-- The failed element faults its slot, and the release comes (R57, R92). -/
theorem State.elementFails_of_no_reset (hreset : s.resetWaits = false) (hrec : (s.leg l).record = some r) :
    s.elementFails c n i l snap cause =
      released
        (s.burstFaulted i l r snap
          { cause := cause, leg := l, remaining := (s.slot i).remaining, element := (s.slot i).element }) c n := by
  rw [State.elementFails, State.setMover_rollback hrec, State.enterFaulted_burstRolledBack hreset]
  exact State.endBurst_of_no_reset (s := s.burstFaulted i l r snap _) hreset

/-- ELEMENT stops where the mover serves a slot that is not ACTIVE (R48, notes/assumptions/16.md). -/
theorem execElement_of_not_active (hrun : s.phase = .running) (hmover : s.arb.mover = .busy i snap)
    (h : (s.slot i).isActive = false) (order : ElementOrder) : execElement order s = .fault (.moverSlot i) := by
  have hne (l : LegIx) : (s.slot i).standing ≠ .inLeg l .active := fun hl => by simp [Slot.isActive, hl] at h
  simp only [execElement, hrun, if_true, hmover]

/-- ELEMENT stops where the ACTIVE slot's leg holds no record (R12, notes/assumptions/16.md). -/
theorem execElement_of_free_leg (hrun : s.phase = .running) (hmover : s.arb.mover = .busy i snap)
    (h : (s.slot i).standing = .inLeg l .active) (hrec : (s.leg l).record = none) (order : ElementOrder) :
    execElement order s = .fault (.freeLeg l) := by
  simp only [execElement, hrun, if_true, hmover, h, hrec]

end Sys2Proof.Machine

namespace Sys2Proof

open Machine

/-- Settles O47: the checks in their order, the rollback and the fault, and the two stops of ELEMENT. -/
theorem elementFailureFaultsTheSlot : Obligations.ElementFailureFaultsTheSlot := by
  refine ⟨fun s c n k i l r snap cause hflight hreset hfails => ?_, fun s c n k i snap hrun hmover =>
    ⟨fun h => execElement_of_not_active hrun hmover h _, fun l h hrec => execElement_of_free_leg hrun hmover h hrec _⟩⟩
  obtain ⟨-, -, -, hrec, -⟩ := id hflight
  exact (execElement_of_fails hflight hfails).trans (congrArg Host.Outcome.next
    (State.elementFails_of_no_reset (s := { s with bufArb := grantPassedOn r s.bufArb }) hreset hrec))

end Sys2Proof
end

section
/-! # Step 3 of leg-end processing (O31) -/

namespace Sys2Proof.Machine

variable {s : State} {i : SlotIx} {l n : LegIx} {r rn : LegRecord} {atCommit : Bool}

theorem State.pass_of_no_reset (h : s.resetWaits = false) (k : EventKind) (i : SlotIx) :
    s.pass k i = { s with events := s.events ++ [{ kind := k, slot := i }] } := by
  simp only [State.pass, h, Bool.false_eq_true, if_false]

/-- The chain end gives up the pin and the credits, and passes CHAIN-END (R64). -/
theorem State.chainEnds_of_no_reset (h : s.resetWaits = false) :
    s.chainEnds i l =
      { s with
        slots := s.slots.set i
          { s.slot i with standing := .done, credits := 0, legRun := false, holdRequested := false }
        legs := s.legs.set l { s.leg l with pins := (s.leg l).pins - 1 }
        reports := s.reports.take (.chainEnd i l (s.slot i).credits)
        events := s.events ++ [{ kind := .chainEnd, slot := i }] } := by
  unfold State.chainEnds
  exact State.pass_of_no_reset (by exact h) .chainEnd i

theorem State.legEndStep3_none (h : r.next = none) : s.legEndStep3 i l r atCommit = s.chainEnds i l := by
  simp only [State.legEndStep3, h]

/-- A NEXT that fails the leg check is a LEG fault (R65). -/
theorem State.legEndStep3_refused (h : r.next = some n) (hcheck : s.legCheck (s.slot i).setup.port n = false) :
    s.legEndStep3 i l r atCommit = s.enterFaulted i l .leg 0 := by
  simp only [State.legEndStep3, h, hcheck, Bool.false_eq_true, if_false]
  cases (s.leg n).record <;> rfl

/-- A NEXT that passes the leg check is entered (R66). -/
theorem State.legEndStep3_passed (h : r.next = some n) (hrn : (s.leg n).record = some rn)
    (hcheck : s.legCheck (s.slot i).setup.port n = true) :
    s.legEndStep3 i l r atCommit = s.entersNext i l r n rn atCommit := by
  simp only [State.legEndStep3, h, hrn, hcheck, if_true]

/-- The part once slot i has entered leg n and its pin has moved there from leg l (R31, R66). -/
def State.moved (s : State) (i : SlotIx) (l n : LegIx) (rn : LegRecord) : State :=
  ((s.updSlot i fun x => x.entered n rn .armed).unpin l).pin n

/-- The slot that has entered leg n, and whatever it is then set to. -/
theorem State.slots_moved (f : Slot → Slot) :
    (s.moved i l n rn).slots.set i (f ((s.moved i l n rn).slot i)) = s.slots.set i (f ((s.slot i).entered n rn .armed)) :=
  State.slots_set_twice (s := s) rfl f

theorem State.slot_moved : (s.moved i l n rn).slot i = (s.slot i).entered n rn .armed :=
  (Vector.get_set_fin _ i i _).trans (if_pos rfl)

/-- The entry of the next leg: HELD, PACED, or ARMED and evaluated (R66). -/
theorem State.entersNext_eq :
    s.entersNext i l r n rn atCommit =
      if r.endHold ∨ (s.slot i).holdRequested then
        { s.moved i l n rn with
          slots := s.slots.set i { (s.slot i).entered n rn .held with holdRequested := false }
          reports := s.reports.take (.held i n rn.count) }
      else if atCommit ∧ 0 < (s.slot i).setup.pace then
        { s.moved i l n rn with slots := s.slots.set i ((s.slot i).entered n rn (.paced (s.slot i).setup.pace)) }
      else (s.moved i l n rn).evaluate i := by
  have hsetup : ((s.moved i l n rn).slot i).setup = (s.slot i).setup := by rw [State.slot_moved]; rfl
  have hheld : (s.moved i l n rn).becomeHeld i n =
      { s.moved i l n rn with
        slots := s.slots.set i { (s.slot i).entered n rn .held with holdRequested := false }
        reports := s.reports.take (.held i n rn.count) } := by
    have hslots := State.slots_moved (s := s) (i := i) (l := l) (n := n) (rn := rn)
      fun x => { x with standing := .inLeg n .held, holdRequested := false }
    have hreports := congrArg (fun x : Slot => s.reports.take (.held i n x.remaining))
      (State.slot_moved (s := s) (i := i) (l := l) (n := n) (rn := rn))
    exact State.eq_of_blocks rfl rfl rfl hslots rfl rfl rfl rfl rfl rfl rfl hreports rfl
  have hstate (st : LegState) : (s.moved i l n rn).setLegState i n st =
      { s.moved i l n rn with slots := s.slots.set i ((s.slot i).entered n rn st) } :=
    State.eq_of_blocks rfl rfl rfl (State.slots_moved fun x => { x with standing := .inLeg n st }) rfl rfl rfl rfl rfl rfl rfl
      rfl rfl
  have harmed : (s.moved i l n rn).setLegState i n .armed = s.moved i l n rn := hstate .armed
  have hgoOn : (s.moved i l n rn).goOn i n atCommit =
      if atCommit = true ∧ 0 < (s.slot i).setup.pace then
        { s.moved i l n rn with slots := s.slots.set i ((s.slot i).entered n rn (.paced (s.slot i).setup.pace)) }
      else (s.moved i l n rn).evaluate i := by
    rw [State.goOn, harmed, hsetup, hstate]
  have hif : s.entersNext i l r n rn atCommit =
      if (r.endHold || (s.slot i).holdRequested) = true then (s.moved i l n rn).becomeHeld i n
      else (s.moved i l n rn).goOn i n atCommit := rfl
  rw [hif, hheld, hgoOn]
  simp only [Bool.or_eq_true]

end Sys2Proof.Machine

namespace Sys2Proof

open Machine

/-- Settles O31: NEXT NONE ends the chain, a NEXT that fails the leg check faults, and one that passes is entered. -/
theorem legEndReadsNext : Obligations.LegEndReadsNext := by
  refine ⟨fun s i l r c hreset => ⟨fun hnone => ?_, fun n hnext hcheck => ?_⟩, fun s i l n r rn c hnext hrn hcheck => ?_⟩
  · exact (State.legEndStep3_none hnone).trans (State.chainEnds_of_no_reset hreset)
  · exact (State.legEndStep3_refused hnext hcheck).trans (State.enterFaulted_of_no_reset hreset 0)
  · exact ((State.legEndStep3_passed hnext hrn hcheck).trans State.entersNext_eq)

end Sys2Proof
end

section
/-! # An element that is not the last of its burst (O45) -/

namespace Sys2Proof.Machine

variable {s t : State} {i q : SlotIx} {l : LegIx} {r : LegRecord} {snap : Snapshot} {w : Word} {n : Nat}

/-- Where no request waits for the element, the preemption check follows it (R57, R78). -/
theorem State.midBurst_of_none_waits (h : NoneWaits s) : s.midBurst n i l snap = s.preemptionCheck i l snap := by
  unfold State.midBurst
  cases he : s.link.executing with
  | none => rfl
  | some e => simp only [h e he]

/-- The best ready slot depends on who is READY, on the setups and on the pointers alone (R74). -/
theorem State.bestReady_congr (hready : ∀ j, (t.slot j).isReady = (s.slot j).isReady)
    (hsetup : ∀ j, (t.slot j).setup = (s.slot j).setup) (hpointers : t.arb.pointers = s.arb.pointers) :
    t.bestReady = s.bestReady := by
  have hset : t.readySet = s.readySet := by simp only [State.readySet, hready]
  have hbefore : t.before = s.before := by
    funext j k
    simp only [State.before, hsetup, hpointers]
  simp only [State.bestReady, hset, hbefore]

theorem State.slot_elementMoved_ne {j : SlotIx} (h : j ≠ i) : (s.elementMoved i r w).slot j = s.slot j := by
  simp only [State.slot, State.slots_elementMoved, Vector.get_set_fin, if_neg (Ne.symm h)]

theorem State.standing_elementMoved (j : SlotIx) : ((s.elementMoved i r w).slot j).standing = (s.slot j).standing := by
  by_cases hj : j = i
  · subst hj
    rw [State.slot_elementMoved]
    rfl
  · rw [State.slot_elementMoved_ne hj]

theorem State.setup_elementMoved (j : SlotIx) : ((s.elementMoved i r w).slot j).setup = (s.slot j).setup := by
  by_cases hj : j = i
  · subst hj
    rw [State.slot_elementMoved]
    rfl
  · rw [State.slot_elementMoved_ne hj]

theorem State.bestReady_elementMoved : (s.elementMoved i r w).bestReady = s.bestReady :=
  State.bestReady_congr (fun j => by simp only [Slot.isReady, State.standing_elementMoved]) State.setup_elementMoved rfl

/-- The element in flight of an ACTIVE slot asks for the buffer where its leg uses it and a host block holds the grant (R146). -/
theorem State.elementBegins_of_active (hmover : s.arb.mover = .busy i snap) (hi : (s.slot i).standing = .inLeg l .active)
    (hrec : (s.leg l).record = some r) :
    s.elementBegins =
      { s with
        bufArb := if r.usesBuffer = true ∧ s.bufArb.grant = some .link then { s.bufArb with waiting := some .mover } else s.bufArb } := by
  have hflight : s.bufferInFlight = r.usesBuffer := by
    simp only [State.bufferInFlight, hmover, Slot.currentLeg_of_standing hi, hrec]
  rw [State.elementBegins, hflight]
  split <;> rfl

/-- A better ready slot with PREEMPT suspends the slot and is granted (R79). -/
theorem State.preemptionCheck_of_preempts (hq : s.bestReady = some q)
    (h : (s.slot i).setup.priority < (s.slot q).setup.priority ∧ (s.slot q).setup.preempt = true ∧
      (s.slot i).setup.yields = true ∧ s.arb.stack.length < 3) :
    s.preemptionCheck i l snap =
      ((s.setLegState i l .suspended).setStack ({ slot := i, snapshot := snap } :: s.arb.stack)).grant q := by
  simp only [State.preemptionCheck, hq]
  exact if_pos h

/-- Without one the slot stays ACTIVE and its next element comes into flight (R78). -/
theorem State.preemptionCheck_of_not_preempts
    (h : ∀ q, s.bestReady = some q → ¬ ((s.slot i).setup.priority < (s.slot q).setup.priority ∧
      (s.slot q).setup.preempt = true ∧ (s.slot i).setup.yields = true ∧ s.arb.stack.length < 3)) :
    s.preemptionCheck i l snap = s.elementBegins := by
  unfold State.preemptionCheck
  cases hq : s.bestReady with
  | none => rfl
  | some q => exact if_neg (h q hq)

/-- The buffer words once an element has moved its word: the one at DST of a BUFFER destination is new (R55). -/
theorem word_wordMoved (h : memWf s.mem = true) (a : Addr) :
    (wordMoved s i r w).word a =
      match r.dst with
      | .buffer _ => if a = (s.slot i).dst then .good w else s.word a
      | .port _ => s.word a := by
  unfold wordMoved
  cases r.dst with
  | buffer p => exact State.word_setWord h _ _ _
  | port p => rfl

end Sys2Proof.Machine

namespace Sys2Proof

open Machine

/-- Settles O45: the word moves, ELEMENT rises, and the preemption check follows. -/
theorem elementMovesAWordAndMayBePreempted : Obligations.ElementMovesAWordAndMayBePreempted := by
  intro s c n k i l r snap w hmoves hnone hmore m risen preempts
  have hslots : (s.elementMoved i r w).slots = m.slots.set i risen := by
    have hm : (m.slot i).element = (s.slot i).element := by rw [slot_wordMoved]; rfl
    simp only [risen, ← hm]
    rfl
  have hexec : exec (.element ⟨c, n, k⟩) s = .next ((s.elementMoved i r w).preemptionCheck i l snap) := by
    have hmore' : ((wordMoved s i r w).slot i).element + 1 < r.burst := by rw [slot_wordMoved]; exact hmore
    refine (execElement_of_moves hmoves).trans (congrArg Host.Outcome.next ?_)
    rw [State.elementCompletes_midBurst hmore']
    exact State.midBurst_of_none_waits (s := s.elementMoved i r w) hnone
  have hpreempts (q : SlotIx) :
      (((s.elementMoved i r w).slot i).setup.priority < ((s.elementMoved i r w).slot q).setup.priority ∧
        ((s.elementMoved i r w).slot q).setup.preempt = true ∧
        ((s.elementMoved i r w).slot i).setup.yields = true ∧ (s.elementMoved i r w).arb.stack.length < 3) = preempts q := by
    simp only [State.setup_elementMoved]
    rfl
  obtain ⟨⟨-, hmover, hi, hrec, -⟩, -⟩ := id hmoves
  refine ⟨fun hstays => ?_, fun q hq hq' => ?_, word_wordMoved⟩
  · have hcheck : (s.elementMoved i r w).preemptionCheck i l snap = (s.elementMoved i r w).elementBegins :=
      State.preemptionCheck_of_not_preempts fun q hq => by
        rw [State.bestReady_elementMoved] at hq
        rw [hpreempts]
        exact hstays q hq
    rw [hexec, hcheck,
      State.elementBegins_of_active (s := s.elementMoved i r w) hmover ((State.standing_elementMoved i).trans hi) hrec]
    exact congrArg Host.Outcome.next (State.eq_of_blocks rfl rfl rfl hslots rfl rfl rfl rfl rfl rfl rfl rfl rfl)
  · rw [hexec, State.preemptionCheck_of_preempts (State.bestReady_elementMoved.trans hq) ((hpreempts q).mpr hq')]
    refine congrArg (fun u : State => Host.Outcome.next (u.grant q)) ?_
    have hsuspended := State.slots_set_twice (s := m) (i := i) (t := s.elementMoved i r w) hslots
      fun x => { x with standing := .inLeg l .suspended }
    exact State.eq_of_blocks rfl rfl rfl hsuspended rfl rfl rfl rfl rfl rfl rfl rfl rfl

end Sys2Proof
end

section
/-! # The last element of a burst (O48) -/

namespace Sys2Proof.Machine

variable {s : State} {i : SlotIx} {l : LegIx} {r : LegRecord} {snap : Snapshot} {w : Word} {c n k : Nat}

/-- The ports once the words of a burst in a leg with record r are final (R60). -/
def portsCommitted (s : State) (r : LegRecord) : Vector Port 8 :=
  match r.srcPort.or r.dstPort with
  | none => s.ports
  | some p => s.ports.set p { s.port p with fifo := (s.port p).fifo.drop (s.port p).tentative, tentative := 0, staged := 0 }

theorem State.settleCommit_eq (hrec : (s.leg l).record = some r) :
    s.settleCommit l = { s with ports := portsCommitted s r } := by
  have hport : s.legPort l = r.srcPort.or r.dstPort := by simp only [State.legPort, hrec]
  unfold State.settleCommit portsCommitted
  rw [hport]
  cases r.srcPort.or r.dstPort <;> rfl

/-- REMAINING has fallen to a MARK of 1 or more (R61). -/
def LegRecord.marks (r : LegRecord) (left : Nat) : Bool := decide (1 ≤ r.mark ∧ left = r.mark)

theorem State.markStep_of_no_reset (h : s.resetWaits = false) :
    s.markStep i l r =
      { s with
        reports := if r.marks (s.slot i).remaining then s.reports.take (.mark i l (s.slot i).remaining) else s.reports
        events := s.events ++ if r.marks (s.slot i).remaining then [{ kind := .mark, slot := i }] else [] } := by
  unfold State.markStep LegRecord.marks
  split
  · next hmark =>
    have hpass := State.pass_of_no_reset (s := s.report (.mark i l r.mark)) h .mark i
    rw [hpass, decide_eq_true hmark, hmark.2]
    rfl
  · next hmark => simp [decide_eq_false hmark]

/-- The part after steps 1 to 6 of a commit (R59). -/
def State.committed (s : State) (i : SlotIx) (l : LegIx) (r : LegRecord) : State :=
  let left := (s.slot i).remaining - 1
  { s with
    slots := s.slots.set i ((s.slot i).burstDone r)
    ports := portsCommitted s r
    arb := { s.arb with mover := .releasing 0 0 }
    reports := if r.marks left then s.reports.take (.mark i l left) else s.reports
    events := s.events ++ (if r.marks left then [{ kind := .mark, slot := i }] else []) ++ [{ kind := .burstEnd, slot := i }] }

theorem State.commit_of_no_reset (hreset : s.resetWaits = false) (hrec : (s.leg l).record = some r) :
    s.commit i l r = (s.committed i l r).afterBurst i l r := by
  let done : State := ((s.settleCommit l).updSlot i fun x => x.burstDone r).setMover (.releasing 0 0)
  have hdone : done =
      { s with
        slots := s.slots.set i ((s.slot i).burstDone r), ports := portsCommitted s r
        arb := { s.arb with mover := .releasing 0 0 } } := by
    simp only [done, State.settleCommit_eq hrec]
    rfl
  have hslot : done.slot i = (s.slot i).burstDone r := by
    rw [hdone]
    exact (Vector.get_set_fin _ i i _).trans (if_pos rfl)
  have hmark := State.markStep_of_no_reset (s := done) (i := i) (l := l) (r := r) (by rw [hdone]; exact hreset)
  have hsteps : (done.markStep i l r).pass .burstEnd i = s.committed i l r := by
    rw [hslot, hdone] at hmark
    rw [hdone, hmark]
    exact State.pass_of_no_reset (by exact hreset) .burstEnd i
  exact congrArg (State.afterBurst · i l r) hsteps

/-- The part after steps 1 to 6 of a commit, with slot i set to z by the steps that follow. -/
def State.committedWith (s : State) (i : SlotIx) (l : LegIx) (r : LegRecord) (z : Slot) : State :=
  { s.committed i l r with slots := s.slots.set i z }

theorem State.slot_committed : (s.committed i l r).slot i = (s.slot i).burstDone r :=
  (Vector.get_set_fin _ i i _).trans (if_pos rfl)

theorem State.updSlot_committed (f : Slot → Slot) :
    (s.committed i l r).updSlot i f = s.committedWith i l r (f ((s.slot i).burstDone r)) :=
  State.eq_of_blocks rfl rfl rfl (State.slots_set_twice (s := s) rfl f) rfl rfl rfl rfl rfl rfl rfl rfl rfl

/-- A requested hold is taken at the end of a burst that leaves REMAINING above 0 (R41). -/
theorem State.afterBurst_held (hmore : (s.slot i).remaining ≠ 0) (hhold : (s.slot i).holdRequested = true) :
    s.afterBurst i l r =
      (s.updSlot i fun x => { x with standing := .inLeg l .held, holdRequested := false }).report
        (.held i l (s.slot i).remaining) := by
  simp only [State.afterBurst, hmore, hhold, if_true, if_false, State.becomeHeld]

/-- Without one the slot is PACED where PACE is above 0 (R38). -/
theorem State.afterBurst_paced (hmore : (s.slot i).remaining ≠ 0) (hhold : ¬ (s.slot i).holdRequested = true)
    (hpace : 0 < (s.slot i).setup.pace) :
    s.afterBurst i l r = s.updSlot i fun x => { x with standing := .inLeg l (.paced (s.slot i).setup.pace) } := by
  simp only [State.afterBurst, hmore, hhold, Bool.false_eq_true, if_false, State.goOn, hpace, and_self, if_true, State.setLegState]

/-- With PACE 0 it is ARMED and evaluated (R38). -/
theorem State.afterBurst_armed (hmore : (s.slot i).remaining ≠ 0) (hhold : ¬ (s.slot i).holdRequested = true)
    (hpace : ¬ 0 < (s.slot i).setup.pace) :
    s.afterBurst i l r = (s.updSlot i fun x => { x with standing := .inLeg l .armed }).evaluate i := by
  simp only [State.afterBurst, hmore, hhold, Bool.false_eq_true, if_false, State.goOn, hpace, and_false, State.setLegState]

/-- A digest other than EXPECT faults the slot at the leg's end (R62). -/
theorem State.afterBurst_digest {e : Word} (hreset : s.resetWaits = false) (hzero : (s.slot i).remaining = 0) (hdigest : r.digest = true)
    (hexpect : r.expect = some e) (hne : e ≠ finalDigest (s.slot i).digest) :
    let f : FaultRecord :=
      { cause := .digest e (finalDigest (s.slot i).digest), leg := l, remaining := (s.slot i).remaining, element := 0 }
    s.afterBurst i l r =
      ((s.updSlot i fun x => { x with standing := .inLeg l (.faulted f), holdRequested := false }).report (.fault i f)).pass
        .fault i := by
  simp only [State.afterBurst, hzero, if_true, State.legEndStep1, digestMismatch?, hdigest, hexpect, hne, if_false,
    State.enterFaulted, hreset, Bool.false_eq_true]

/-- Otherwise the leg's end is reported and passed, and NEXT is read (R63). -/
theorem State.afterBurst_legEnd (hzero : (s.slot i).remaining = 0)
    (h : r.digest = false ∨ r.expect = none ∨ r.expect = some (finalDigest (s.slot i).digest)) :
    s.afterBurst i l r = s.legEndStep2 i l r true := by
  have hnone : digestMismatch? r (s.slot i).digest = none := by
    rcases h with h | h | h
    · simp only [digestMismatch?, h]
    · cases hd : r.digest <;> simp only [digestMismatch?, hd, h]
    · cases hd : r.digest <;> simp only [digestMismatch?, hd, h, if_true]
  simp only [State.afterBurst, hzero, if_true, State.legEndStep1, hnone]

/-- The last element of a burst commits it, and the release follows (R57, R59). -/
theorem execElement_of_last (h : ElementMoves s k i l r snap w) (hreset : s.resetWaits = false)
    (hlast : (s.slot i).element + 1 = r.burst) :
    execElement ⟨c, n, k⟩ s = .next (released (((wordMoved s i r w).committed i l r).afterBurst i l r) c n) := by
  obtain ⟨⟨-, -, -, hrec, -⟩, -⟩ := id h
  have hlast' : ¬ ((wordMoved s i r w).slot i).element + 1 < r.burst := by
    rw [slot_wordMoved]
    exact Nat.not_lt.mpr hlast.ge
  have hends : (((wordMoved s i r w).committed i l r).afterBurst i l r).resetWaits = false := by
    rw [State.resetWaits, (State.afterBurst_frame ..).2.1]
    exact hreset
  have hcommit := State.commit_of_no_reset (s := wordMoved s i r w) (i := i) hreset hrec
  rw [execElement_of_moves h, State.elementCompletes, if_neg hlast', hcommit, State.endBurst_of_no_reset hends]

end Sys2Proof.Machine

namespace Sys2Proof

open Machine

/-- Settles O48: steps 1 to 6 of the commit, then the hold, the pace, or leg-end processing. -/
theorem lastElementCommitsTheBurst : Obligations.LastElementCommitsTheBurst := by
  intro s c n k i l r snap w hmoves hreset hlast hpos m left marked y done
  have hslot : m.slot i = (s.slot i).stepped r w := slot_wordMoved s i r w
  have hleft : (m.slot i).remaining - 1 = left := by rw [hslot]; rfl
  have hy : (m.slot i).burstDone r = y := by
    simp only [Slot.burstDone, hleft]
    rfl
  have hwith (z : Slot) : m.committedWith i l r z = done z := by
    have hslots : m.slots.set i z = s.slots.set i z := Vector.set_set (hi := i.isLt) ..
    simp only [State.committedWith, State.committed, hslots, hleft]
    rfl
  have hupd (f : Slot → Slot) : (m.committed i l r).updSlot i f = done (f y) := by
    rw [State.updSlot_committed, hy, hwith]
  have hdone : (m.committed i l r).slot i = y := State.slot_committed.trans hy
  have hexec : exec (.element ⟨c, n, k⟩) s = _ := execElement_of_last hmoves hreset hlast
  have hreset' : (m.committed i l r).resetWaits = false := hreset
  refine ⟨fun hmore => ?_, fun hzero => ⟨fun e hdigest hexpect hne => ?_, fun hmatch => ?_⟩⟩
  · have hmore' : ((m.committed i l r).slot i).remaining ≠ 0 := by
      rw [hdone]
      exact Nat.ne_of_gt hmore
    have hhold : ((m.committed i l r).slot i).holdRequested = (s.slot i).holdRequested := by
      rw [hdone]
      exact (congrArg Slot.holdRequested hslot :)
    have hpace : ((m.committed i l r).slot i).setup.pace = (s.slot i).setup.pace := by
      rw [hdone]
      exact (congrArg (fun x : Slot => x.setup.pace) hslot :)
    rw [hexec]
    split
    · next h =>
      rw [State.afterBurst_held hmore' (hhold.trans h), hupd, hdone]
    · next h =>
      rw [← hhold] at h
      split
      · next hp => rw [State.afterBurst_paced hmore' h (hpace ▸ hp), hpace, hupd]
      · next hp => rw [State.afterBurst_armed hmore' h (hpace ▸ hp), hupd]
  · have hzero' : ((m.committed i l r).slot i).remaining = 0 := (congrArg Slot.remaining hdone).trans hzero
    have hne' : e ≠ finalDigest ((m.committed i l r).slot i).digest := by
      rw [hdone]
      exact hne
    rw [hexec, State.afterBurst_digest hreset' hzero' hdigest hexpect hne', hupd, hzero', hdone]
    rfl
  · have hzero' : ((m.committed i l r).slot i).remaining = 0 := (congrArg Slot.remaining hdone).trans hzero
    have hmatch' : r.digest = false ∨ r.expect = none ∨ r.expect = some (finalDigest ((m.committed i l r).slot i).digest) := by
      rw [hdone]
      exact hmatch
    have hcommitted : m.committed i l r = done y := by rw [← hwith, ← hy]; rfl
    rw [hexec, State.afterBurst_legEnd hzero' hmatch', State.legEndStep2, hdone, hcommitted]
    rfl

end Sys2Proof
end

section
/-! # A port as a burst sees it

A legal leg has at most one port endpoint (R5). What its bursts ask of that port, and what the port's own steps keep of it (R30, R54,
R55, R60, R67, R127, R129). -/

namespace Sys2Proof.Machine

variable {q : Port} {r : LegRecord} {n : Nat} {w : Word} {p : PortIx}

/-- The port endpoint of a leg. -/
def LegRecord.port (r : LegRecord) : Option PortIx := r.srcPort.or r.dstPort

/-- The DIRECTION a leg asks of its port (R30). -/
def LegRecord.side (r : LegRecord) : Direction := if r.srcPort.isSome then .inward else .outward

/-- A legal leg reads a port, or writes one, or has none. -/
theorem LegRecord.port_cases (h : portToPort r.src r.dst = false) :
    (∃ p, r.srcPort = some p ∧ r.dstPort = none ∧ r.port = some p ∧ r.side = .inward) ∨
      (∃ p, r.srcPort = none ∧ r.dstPort = some p ∧ r.port = some p ∧ r.side = .outward) ∨
      (r.srcPort = none ∧ r.dstPort = none ∧ r.port = none) := by
  unfold LegRecord.port LegRecord.side
  cases hsrc : r.srcPort with
  | some p =>
    have hdst : r.dstPort = none := by
      rw [Option.eq_none_iff_forall_ne_some]
      intro d hd
      rw [LegRecord.srcPort_eq_some] at hsrc
      rw [LegRecord.dstPort_eq_some] at hd
      simp [hsrc, hd, portToPort] at h
    exact .inl ⟨p, rfl, hdst, rfl, rfl⟩
  | none =>
    cases hdst : r.dstPort with
    | some d => exact .inr (.inl ⟨d, rfl, rfl, rfl, rfl⟩)
    | none => exact .inr (.inr ⟨rfl, rfl, rfl⟩)

/-- The port is set up to suit the leg (R30). -/
structure Port.Suits (q : Port) (r : LegRecord) : Prop where
  enable : q.enable = true
  direction : q.direction = r.side
  burst : r.burst ≤ q.threshold

/-- The port holds the words, or the places, of a burst that has moved n words (R54, R55). -/
def Port.Holds (q : Port) (r : LegRecord) (n : Nat) : Prop :=
  match r.side with
  | .inward => q.tentative = n ∧ r.burst ≤ q.fifo.length
  | .outward => q.staged = n ∧ q.committed + r.burst ≤ 32

/-- No burst is under way at the port (R26). -/
def Port.Settled (q : Port) : Prop := q.tentative = 0 ∧ q.staged = 0

theorem Port.holds_inward (h : r.side = .inward) : q.Holds r n ↔ q.tentative = n ∧ r.burst ≤ q.fifo.length := by
  simp only [Port.Holds, h]

theorem Port.holds_outward (h : r.side = .outward) : q.Holds r n ↔ q.staged = n ∧ q.committed + r.burst ≤ 32 := by
  simp only [Port.Holds, h]

theorem Port.committed_outward (h : q.direction = .outward) : q.committed = q.fifo.length - q.staged := by
  simp only [Port.committed, h]

/-- The request condition of a settled port that suits the leg is the grant's warrant for a whole burst (R36, R54, R55). -/
theorem Port.Suits.holds_zero (h : q.Suits r) (hlaw : PortLaw q) (hcondition : q.condition = true) (hsettled : q.Settled) :
    q.Holds r 0 := by
  obtain ⟨-, hdirection, hburst⟩ := h
  obtain ⟨htentative, hstaged⟩ := hsettled
  cases hside : r.side with
  | inward =>
    obtain ⟨-, hwords⟩ := (Port.condition_inward (hdirection.trans hside)).mp hcondition
    exact (Port.holds_inward hside).mpr ⟨htentative, hburst.trans hwords⟩
  | outward =>
    have hout := hdirection.trans hside
    obtain ⟨-, hplaces⟩ := (Port.condition_outward hout).mp hcondition
    refine (Port.holds_outward hside).mpr ⟨hstaged, ?_⟩
    obtain ⟨hthreshold, -⟩ := hlaw
    rw [Port.committed_outward hout]
    omega

/-- The port after an element of a leg has moved a word (R54, R55). -/
def Port.carried (q : Port) (r : LegRecord) (w : Word) : Port :=
  match r.side with
  | .inward => { q with tentative := q.tentative + 1 }
  | .outward => { q with fifo := q.fifo ++ [w], staged := q.staged + 1 }

theorem Port.carried_inward (h : r.side = .inward) : q.carried r w = { q with tentative := q.tentative + 1 } := by
  simp only [Port.carried, h]

theorem Port.carried_outward (h : r.side = .outward) :
    q.carried r w = { q with fifo := q.fifo ++ [w], staged := q.staged + 1 } := by
  simp only [Port.carried, h]

theorem Port.Suits.carried (h : q.Suits r) (w : Word) : (q.carried r w).Suits r := by
  obtain ⟨henable, hdirection, hburst⟩ := h
  unfold Port.carried
  split <;> exact ⟨henable, hdirection, hburst⟩

/-- A burst that is not over moves one more word. -/
theorem Port.Holds.carried (h : q.Holds r n) (hsuits : q.Suits r) : (q.carried r w).Holds r (n + 1) := by
  cases hside : r.side with
  | inward =>
    obtain ⟨htentative, hwords⟩ := (Port.holds_inward hside).mp h
    rw [Port.carried_inward hside]
    exact (Port.holds_inward hside).mpr ⟨congrArg (· + 1) htentative, hwords⟩
  | outward =>
    obtain ⟨hstaged, hplaces⟩ := (Port.holds_outward hside).mp h
    have hout := hsuits.direction.trans hside
    have hcommitted : ({ q with fifo := q.fifo ++ [w], staged := q.staged + 1 } : Port).committed = q.committed := by
      rw [Port.committed_outward hout, Port.committed_outward (q := { q with fifo := q.fifo ++ [w], staged := q.staged + 1 }) hout]
      simp
    rw [Port.carried_outward hside]
    exact (Port.holds_outward hside).mpr ⟨congrArg (· + 1) hstaged, hcommitted ▸ hplaces⟩

/-- An inbound port in mid-burst has words to read (R54). -/
theorem Port.Holds.tentative_lt (h : q.Holds r n) (hside : r.side = .inward) (hn : n < r.burst) : q.tentative < q.fifo.length := by
  obtain ⟨htentative, hwords⟩ := (Port.holds_inward hside).mp h
  omega

/-- An outbound port in mid-burst has a place to write (R55). -/
theorem Port.Holds.length_lt (h : q.Holds r n) (hside : r.side = .outward) (hsuits : q.Suits r) (hn : n < r.burst) :
    q.fifo.length < 32 := by
  obtain ⟨hstaged, hplaces⟩ := (Port.holds_outward hside).mp h
  rw [Port.committed_outward (hsuits.direction.trans hside)] at hplaces
  omega

theorem Port.Holds.portLaw_carried (h : q.Holds r n) (hsuits : q.Suits r) (hlaw : PortLaw q) (hn : n < r.burst) :
    PortLaw (q.carried r w) := by
  obtain ⟨hthreshold, hthreshold', hlength, hover, hunder, hin, hout⟩ := hlaw
  cases hside : r.side with
  | inward =>
    have hdirection := hsuits.direction.trans hside
    rw [Port.carried_inward hside]
    exact ⟨hthreshold, hthreshold', hlength, hover, hunder, fun _ => ⟨(hin hdirection).1, h.tentative_lt hside hn⟩,
      fun hne => by simp [hdirection] at hne⟩
  | outward =>
    have hdirection := hsuits.direction.trans hside
    obtain ⟨htentative, hstaged⟩ := hout hdirection
    have hroom : (q.fifo ++ [w]).length = q.fifo.length + 1 := by simp
    rw [Port.carried_outward hside]
    exact ⟨hthreshold, hthreshold', hroom ▸ h.length_lt hside hsuits hn, hover, hunder,
      fun hne => by simp [hdirection] at hne, fun _ => ⟨htentative, hroom ▸ Nat.succ_le_succ hstaged⟩⟩

/-! ## The end of a burst at its port -/

theorem Port.portLaw_settledBack (h : PortLaw q) : PortLaw q.settledBack := by
  obtain ⟨hthreshold, hthreshold', hlength, hover, hunder, -, -⟩ := h
  exact ⟨hthreshold, hthreshold', (List.length_take_le' ..).trans hlength, hover, hunder, fun _ => ⟨rfl, Nat.zero_le _⟩,
    fun _ => ⟨rfl, Nat.zero_le _⟩⟩

theorem Port.portLaw_committedWords (h : PortLaw q) : PortLaw q.committedWords := by
  obtain ⟨hthreshold, hthreshold', hlength, hover, hunder, -, -⟩ := h
  have hdrop : (q.fifo.drop q.tentative).length ≤ q.fifo.length := by simp
  exact ⟨hthreshold, hthreshold', hdrop.trans hlength, hover, hunder, fun _ => ⟨rfl, Nat.zero_le _⟩,
    fun _ => ⟨rfl, Nat.zero_le _⟩⟩

theorem Port.Suits.settledBack (h : q.Suits r) : q.settledBack.Suits r := ⟨h.enable, h.direction, h.burst⟩

theorem Port.Suits.committedWords (h : q.Suits r) : q.committedWords.Suits r := ⟨h.enable, h.direction, h.burst⟩

/-! ## The peripheral's steps and the resets -/

/-- A step of the port that takes nothing from a slot: its setup stays, and no burst and no READY slot loses what it counts on. -/
structure Port.Keeps (q q' : Port) : Prop where
  law : PortLaw q → PortLaw q'
  suits : ∀ r, q.Suits r → q'.Suits r
  holds : ∀ r n, q.Suits r → q.Holds r n → q'.Holds r n
  condition : q.condition = true → q'.condition = true
  settled : q.Settled → q'.Settled

theorem bump_le {n : Nat} (h : n ≤ 65535) : bump n ≤ 65535 := by
  unfold bump Config.counterTop
  split <;> omega

/-- A word that arrives with room for it (R127). -/
theorem Port.keeps_arrival (hin : q.direction = .inward) (hroom : q.occupancy < 32) (w : Word) :
    q.Keeps { q with fifo := q.fifo ++ [w] } where
  law := by
    rintro ⟨hthreshold, hthreshold', -, hover, hunder, hinward, -⟩
    have hroom : q.fifo.length < 32 := by simpa only [Port.occupancy, hin] using hroom
    obtain ⟨hstaged, htentative⟩ := hinward hin
    have hlength : (q.fifo ++ [w]).length = q.fifo.length + 1 := by simp
    exact ⟨hthreshold, hthreshold', hlength ▸ hroom, hover, hunder,
      fun _ => ⟨hstaged, hlength ▸ htentative.trans (Nat.le_succ _)⟩, fun hout => by simp [hin] at hout⟩
  suits _ h := ⟨h.enable, h.direction, h.burst⟩
  holds r n hsuits h := by
    have hside : r.side = .inward := hsuits.direction.symm.trans hin
    obtain ⟨htentative, hwords⟩ := (Port.holds_inward hside).mp h
    exact (Port.holds_inward hside).mpr ⟨htentative, hwords.trans (by simp)⟩
  condition h := by
    obtain ⟨henable, hwords⟩ := (Port.condition_inward hin).mp h
    exact (Port.condition_inward (p := { q with fifo := q.fifo ++ [w] }) hin).mpr ⟨henable, hwords.trans (by simp)⟩
  settled := id

/-- A committed word that the peripheral takes (R129). -/
theorem Port.keeps_take (hout : q.direction = .outward) (hword : 0 < q.committed) (d : Option Word) :
    q.Keeps { q with fifo := q.fifo.drop 1, driven := d } where
  law := by
    rintro ⟨hthreshold, hthreshold', hlength, hover, hunder, -, houtward⟩
    rw [Port.committed_outward hout] at hword
    obtain ⟨htentative, hstaged⟩ := houtward hout
    have hdrop : (q.fifo.drop 1).length = q.fifo.length - 1 := List.length_drop
    have hstaged' : q.staged ≤ (q.fifo.drop 1).length := by omega
    exact ⟨hthreshold, hthreshold', hdrop ▸ (Nat.sub_le _ _).trans hlength, hover, hunder,
      fun hin => by simp [hout] at hin, fun _ => ⟨htentative, hstaged'⟩⟩
  suits _ h := ⟨h.enable, h.direction, h.burst⟩
  holds r n hsuits h := by
    have hside : r.side = .outward := hsuits.direction.symm.trans hout
    obtain ⟨hstaged, hplaces⟩ := (Port.holds_outward hside).mp h
    have hcommitted : ({ q with fifo := q.fifo.drop 1, driven := d } : Port).committed ≤ q.committed := by
      rw [Port.committed_outward hout, Port.committed_outward (q := { q with fifo := q.fifo.drop 1, driven := d }) hout, List.length_drop]
      show q.fifo.length - 1 - q.staged ≤ q.fifo.length - q.staged
      omega
    exact (Port.holds_outward hside).mpr ⟨hstaged, by omega⟩
  condition h := by
    obtain ⟨henable, hplaces⟩ := (Port.condition_outward hout).mp h
    rw [Port.committed_outward hout] at hword
    have hdrop : (q.fifo.drop 1).length = q.fifo.length - 1 := List.length_drop
    exact (Port.condition_outward (p := { q with fifo := q.fifo.drop 1, driven := d }) hout).mpr
      ⟨henable, show q.threshold ≤ 32 - ((q.fifo.drop 1).length - q.staged) - q.staged by omega⟩
  settled := id

/-- A step that changes nothing but the alarms and the word driven. -/
theorem Port.keeps_alarms {o u : Bool} {overs unders : Nat} (hover : q.overrunCount ≤ 65535 → overs ≤ 65535)
    (hunder : q.underrunCount ≤ 65535 → unders ≤ 65535) (d : Option Word) :
    q.Keeps { q with overrun := o, underrun := u, overrunCount := overs, underrunCount := unders, driven := d } where
  law := fun ⟨hthreshold, hthreshold', hlength, hover', hunder', hin, hout⟩ =>
    ⟨hthreshold, hthreshold', hlength, hover hover', hunder hunder', hin, hout⟩
  suits _ h := ⟨h.enable, h.direction, h.burst⟩
  holds _ _ _ h := h
  condition := id
  settled := id

theorem Port.portLaw_setUp (h : PortLaw q) {threshold : Nat} (hthreshold : 1 ≤ threshold ∧ threshold ≤ 32) (d : Direction)
    (enable : Bool) : PortLaw (q.setUp d threshold enable) := by
  obtain ⟨-, -, -, hover, hunder, -, -⟩ := h
  exact ⟨hthreshold.1, hthreshold.2, Nat.zero_le _, hover, hunder, fun _ => ⟨rfl, Nat.le_refl _⟩, fun _ => ⟨rfl, Nat.le_refl _⟩⟩

theorem Port.portLaw_engineReset (h : PortLaw q) : PortLaw q.engineReset := by
  obtain ⟨hthreshold, hthreshold', -, hover, hunder, -, -⟩ := h
  exact ⟨hthreshold, hthreshold', Nat.zero_le _, hover, hunder, fun _ => ⟨rfl, Nat.le_refl _⟩, fun _ => ⟨rfl, Nat.le_refl _⟩⟩

end Sys2Proof.Machine
end

section
/-! # The laws of the transfer side over a view and its ports

`Law` is what `TransferLaw` says but for the pins, over what a state shows: the view and the ports. `Flow` is its part that does not
ask what the mover does; it also holds between the two halves of a suspension, of a grant at an idle mover, and of a release. -/

namespace Sys2Proof.Machine

variable {v w : View} {port port' : PortIx → Port} {i j : SlotIx} {l : LegIx} {x y : Slot} {r : LegRecord} {p : PortIx}
  {record record' : LegIx → Option LegRecord} {st : LegState}

/-! ## A slot and the port of its leg -/

/-- The slot is in a burst: ACTIVE or SUSPENDED. -/
def Slot.InBurst (x : Slot) : Prop := x.isActive = true ∨ x.isSuspended = true

theorem Slot.not_inBurst_iff : ¬ x.InBurst ↔ x.OutsideBurst := by
  simp [Slot.InBurst, Slot.OutsideBurst]

theorem Slot.OutsideBurst.not_inBurst (h : x.OutsideBurst) : ¬ x.InBurst := Slot.not_inBurst_iff.mpr h

theorem Slot.inBurst_of_active (h : x.standing = .inLeg l .active) : x.InBurst := .inl (Slot.isActive_of_standing h)

theorem Slot.inBurst_of_suspended (h : x.standing = .inLeg l .suspended) : x.InBurst := .inr (Slot.isSuspended_iff.mpr ⟨l, h⟩)

/-- A slot in a burst stands in a leg and has no fault record. -/
theorem Slot.InBurst.standing (h : x.InBurst) : ∃ l st, x.standing = .inLeg l st ∧ ∀ f, st ≠ .faulted f := by
  rcases h with h | h
  · obtain ⟨l, hl⟩ := Slot.isActive_iff.mp h
    exact ⟨l, .active, hl, by simp⟩
  · obtain ⟨l, hl⟩ := Slot.isSuspended_iff.mp h
    exact ⟨l, .suspended, hl, by simp⟩

/-- What a slot in a leg with record r has of its port (R30, R54, R55, R132). -/
structure Port.Serves (q : Port) (x : Slot) (r : LegRecord) : Prop where
  suits : x.faultRecord = none → q.Suits r
  holds : x.InBurst → q.Holds r x.element
  ready : x.isReady = true → q.condition = true

/-- A slot in a leg with record r: bound to the leg's port, within its burst, and served by its port. -/
structure InStream (port : PortIx → Port) (x : Slot) (r : LegRecord) : Prop where
  bound : r.port = x.setup.port
  element : x.InBurst → x.element < r.burst
  serves : ∀ p, x.setup.port = some p → (port p).Serves x r

/-- A slot stands with its port as its state asks. -/
def SlotOk (record : LegIx → Option LegRecord) (port : PortIx → Port) (x : Slot) : Prop :=
  ∀ l r, x.currentLeg = some l → record l = some r → InStream port x r

theorem SlotOk.of_no_leg (h : x.currentLeg = none) : SlotOk record port x := fun l r hl => by
  rw [h] at hl
  cases hl

/-- A slot with the standing, the setup and the ELEMENT of another stands as that one does. -/
theorem InStream.congr (h : InStream port x r) (hstanding : y.standing = x.standing) (hsetup : y.setup = x.setup)
    (helement : y.element = x.element) : InStream port y r := by
  have hburst : y.InBurst ↔ x.InBurst := by
    simp only [Slot.InBurst, Slot.isActive, Slot.isSuspended, hstanding]
  refine ⟨hsetup ▸ h.bound, fun hy => helement ▸ h.element (hburst.mp hy), fun p hp => ?_⟩
  obtain ⟨hsuits, hholds, hready⟩ := h.serves p (hsetup ▸ hp)
  refine ⟨fun hy => hsuits ?_, fun hy => helement ▸ hholds (hburst.mp hy), fun hy => hready ?_⟩
  · simpa only [Slot.faultRecord, hstanding] using hy
  · simpa only [Slot.isReady, hstanding] using hy

theorem SlotOk.congr (h : SlotOk record port x) (hstanding : y.standing = x.standing) (hsetup : y.setup = x.setup)
    (helement : y.element = x.element) : SlotOk record port y := fun l r hl hr =>
  (h l r (Slot.currentLeg_congr hstanding ▸ hl) hr).congr hstanding hsetup helement

/-- A slot FAULTED in a leg asks nothing of its port but to be bound to it. -/
theorem InStream.faulted {f : FaultRecord} (hy : y.standing = .inLeg l (.faulted f)) (hbound : r.port = y.setup.port) :
    InStream port y r where
  bound := hbound
  element hburst := absurd hburst (Slot.outsideBurst_of_faulted hy).not_inBurst
  serves p _ :=
    ⟨fun h => by simp [Slot.faultRecord, hy] at h, fun hburst => absurd hburst (Slot.outsideBurst_of_faulted hy).not_inBurst,
      fun h => by simp [Slot.isReady, hy] at h⟩

/-- A slot between two bursts needs a port that suits its leg, and in READY one with the request condition true. -/
theorem InStream.betweenBursts (hst : st.betweenBursts = true) (hy : y.standing = .inLeg l st) (hbound : r.port = y.setup.port)
    (hsuits : ∀ p, y.setup.port = some p → (port p).Suits r)
    (hready : st = .ready → ∀ p, y.setup.port = some p → (port p).condition = true) : InStream port y r where
  bound := hbound
  element hburst := absurd hburst (Slot.outsideBurst_of_betweenBursts hst hy).not_inBurst
  serves p hp :=
    ⟨fun _ => hsuits p hp, fun hburst => absurd hburst (Slot.outsideBurst_of_betweenBursts hst hy).not_inBurst, fun h => by
      obtain ⟨m, hm⟩ := Slot.isReady_iff.mp h
      rw [hy] at hm
      exact hready (Standing.inLeg.inj hm).2 p hp⟩

/-- The port of a slot that stands in a leg and is not FAULTED suits the leg. -/
theorem InStream.suits (h : InStream port x r) (hst : ∀ f, st ≠ .faulted f) (hx : x.standing = .inLeg l st)
    (hp : x.setup.port = some p) : (port p).Suits r := by
  refine (h.serves p hp).suits ?_
  by_contra hf
  obtain ⟨f, hf⟩ := Option.ne_none_iff_exists'.mp hf
  obtain ⟨m, hm⟩ := Slot.faultRecord_eq_some.mp hf
  rw [hx] at hm
  exact hst f (Standing.inLeg.inj hm).2

/-! ## The laws -/

/-- The laws that no port and no PRIORITY enters; every move keeps them. -/
structure View.Core (v : View) : Prop where
  binding : v.BindingLaw
  burst : v.BurstLaw
  element : ∀ i, ElementOk (v.slots i)
  legal : ∀ l r, v.record l = some r → r.Legal
  loaded : ∀ i l, (v.slots i).currentLeg = some l → (v.record l).isSome = true

/-- PRIORITY falls from the top of the stack down (R77). -/
def View.Ordered (v : View) : Prop := (v.stack.map fun e => (v.slots e.slot).setup.priority).Pairwise (· > ·)

/-- Slot i stands above every slot of the stack in PRIORITY. -/
def View.Above (v : View) (i : SlotIx) : Prop := ∀ e ∈ v.stack, (v.slots e.slot).setup.priority < (v.slots i).setup.priority

/-- The laws of a view and its ports that do not ask what the mover does. -/
structure Flow (v : View) (port : PortIx → Port) : Prop where
  core : v.Core
  ordered : v.Ordered
  ports : ∀ p, PortLaw (port p)
  streams : ∀ i, SlotOk v.record port (v.slots i)
  settled : ∀ p, (∀ i, (v.slots i).boundTo p = true → (v.slots i).OutsideBurst) → (port p).Settled

/-- The laws of a view and its ports: next to `Flow`, the slot the mover serves is ACTIVE and above the stack, and an idle mover leaves
the stack and the ready set empty (R48, R76, R77). -/
structure Law (v : View) (port : PortIx → Port) : Prop extends Flow v port where
  served : ∀ i snap, v.mover = .busy i snap → (v.slots i).isActive = true
  above : ∀ i snap, v.mover = .busy i snap → v.Above i
  idle : v.mover = .idle → v.stack = [] ∧ ∀ i, (v.slots i).isReady = false

/-- The mover stands at a release, where `Flow` is the whole law. -/
theorem Flow.law_of_releasing (h : Flow v port) {c n : Nat} (hmover : v.mover = .releasing c n) : Law v port where
  toFlow := h
  served i snap hm := by simp [hmover] at hm
  above i snap hm := by simp [hmover] at hm
  idle hm := by simp [hmover] at hm

/-! ## The core, move by move -/

theorem View.legal_move (h : ∀ l r, v.record l = some r → r.Legal) (hmove : v.Move w) : ∀ l r, w.record l = some r → r.Legal := by
  cases hmove with
  | @link l r n hr =>
    intro m q hq
    have hq : Function.update v.record l _ m = some q := hq
    by_cases hm : m = l
    · subst hm
      rw [Function.update_self] at hq
      obtain rfl := Option.some.inj hq
      obtain ⟨hb, hb', hc, hc', hmark, hends, hexpect⟩ := h m r hr
      exact ⟨hb, hb', hc, hc', hmark, hends, hexpect⟩
    · rw [Function.update_of_ne hm] at hq
      exact h m q hq
  | reset record hrecord =>
    intro m q hq
    rcases hrecord m with hm | hm
    · exact h m q (hm ▸ hq)
    · cases hm.symm.trans hq
  | _ => exact h

theorem LegEnded.loaded (h : LegEnded record l x y) (hl : (record l).isSome = true) {m : LegIx} (hm : y.currentLeg = some m) :
    (record m).isSome = true := by
  cases h with
  | done => cases hm
  | faulted => exact Option.some.inj hm ▸ hl
  | enters n rn st hold hn _ => rw [← Option.some.inj hm, hn, Option.isSome_some]

theorem BurstEnded.loaded (h : BurstEnded record l x y) (hl : (record l).isSome = true) {m : LegIx} (hm : y.currentLeg = some m) :
    (record m).isSome = true := by
  cases h with
  | goesOn => exact Option.some.inj hm ▸ hl
  | legEnds _ _ hend => exact hend.loaded hl hm

theorem Slot.currentLeg_burstStart (x : Slot) (l : LegIx) : (x.burstStart l).1.currentLeg = some l :=
  Slot.currentLeg_of_standing (Slot.burstStart_standing x l)

theorem View.loaded_move (h : ∀ i l, (v.slots i).currentLeg = some l → (v.record l).isSome = true) (hmove : v.Move w) :
    ∀ i l, (w.slots i).currentLeg = some l → (w.record l).isSome = true := by
  have hset {i : SlotIx} {y : Slot} (hy : ∀ l, y.currentLeg = some l → (v.record l).isSome = true) :
      ∀ j l, ((v.set i y).slots j).currentLeg = some l → (v.record l).isSome = true :=
    View.forall_set (P := fun _ x => ∀ l, x.currentLeg = some l → (v.record l).isSome = true) (fun j _ => h j) hy
  have hin {i : SlotIx} {l : LegIx} {st : LegState} (hi : (v.slots i).standing = .inLeg l st) : (v.record l).isSome = true :=
    h i l (Slot.currentLeg_of_standing hi)
  have hstays {i : SlotIx} {l : LegIx} {st : LegState} {y : Slot} (hi : (v.slots i).standing = .inLeg l st)
      (hy : y.currentLeg = some l) (m : LegIx) (hm : y.currentLeg = some m) : (v.record m).isSome = true :=
    Option.some.inj (hy.symm.trans hm) ▸ hin hi
  cases hmove with
  | setup u _ _ => exact hset (h _)
  | arm _ _ hr => exact hset fun m hm => by rw [← Option.some.inj hm, hr, Option.isSome_some]
  | holdFlag hold => exact hset (h _)
  | credit n _ => exact hset (h _)
  | turn st' hi _ _ => exact hset (hstays hi rfl)
  | element src dst digest element hi => exact hset (h _)
  | suspend hi _ _ => exact hset (hstays hi rfl)
  | grant hi _ => exact hset (hstays hi (Slot.currentLeg_burstStart _ _))
  | pop _ hi _ => exact hset (hstays hi rfl)
  | drop _ _ _ => exact h
  | mover m _ _ => exact h
  | commit r _ hi hend => exact hset fun m hm => hend.loaded (hin hi) hm
  | fail cause element _ hi _ => exact hset (hstays hi rfl)
  | cancelActive _ _ => exact hset fun m hm => by cases hm
  | cancel _ _ => exact hset fun m hm => by cases hm
  | cancelSuspended _ =>
    refine hset fun m hm => ?_
    simp only [Slot.currentLeg, Slot.standing_cancelledFrom] at hm
    cases hm
  | resume hi _ hr hend => exact hset fun m hm => hend.loaded (by rw [hr, Option.isSome_some]) hm
  | @link k r n _ =>
    intro j m hm
    show (Function.update v.record k _ m).isSome = true
    by_cases hk : m = k
    · rw [hk, Function.update_self, Option.isSome_some]
    · rw [Function.update_of_ne hk]
      exact h j m hm
  | tick => exact fun j m hm => h j m (Slot.currentLeg_tick _ ▸ hm)
  | reset record _ => exact fun j m hm => by cases hm

theorem View.Core.move (h : v.Core) (hmove : v.Move w) : w.Core where
  binding := h.binding.move hmove
  burst := h.burst.move hmove
  element := View.elementLaw_move h.burst h.element hmove
  legal := View.legal_move h.legal hmove
  loaded := View.loaded_move h.loaded hmove

theorem View.Core.moves (h : v.Core) (hmoves : v.Moves w) : w.Core := hmoves.keeps View.Core.move h

/-- A slot in no burst may be replaced by another that takes no port and stands in a LOADED leg, if in any. -/
theorem View.Core.set (h : v.Core) (hx : (v.slots i).OutsideBurst) (hy : y.OutsideBurst)
    (hbound : ∀ p, y.boundTo p = true → (v.slots i).boundTo p = true) (helement : y.element = 0)
    (hloaded : ∀ l, y.currentLeg = some l → (v.record l).isSome = true) : (v.set i y).Core where
  binding := h.binding.set_bound hbound
  burst := h.burst.set_outside hx hy
  element := View.forall_set (P := fun _ => ElementOk) (fun j _ => h.element j) (.of_zero helement)
  legal := h.legal
  loaded := View.forall_set (P := fun _ x => ∀ l, x.currentLeg = some l → (v.record l).isSome = true)
    (fun j _ => h.loaded j) hloaded

/-- A slot of the stack is in a burst. -/
theorem View.Core.inBurst_of_mem (h : v.Core) {e : Suspended} (he : e ∈ v.stack) : (v.slots e.slot).InBurst :=
  .inr (h.burst.suspended_of_mem he)

theorem Slot.InBurst.not_idle (h : x.InBurst) : x.standing ≠ .idle := by
  obtain ⟨l, st, hst, -⟩ := h.standing
  simp [hst]

/-- The port that a slot in a burst is bound to, no other slot is bound to. -/
theorem View.Core.not_bound_of_ne (h : v.Core) (hi : (v.slots i).InBurst) (hp : (v.slots i).setup.port = some p) (hj : j ≠ i) :
    ¬ (v.slots j).boundTo p = true := fun hbound =>
  hj (h.binding j i p hbound (Slot.boundTo_iff.mpr ⟨hi.not_idle, hp⟩))

/-! ## One slot changes, and the port of its burst with it -/

/-- The order of the stack stays where the stack loses entries alone and the slots left on it keep their setup. -/
theorem View.Ordered.of_sublist (h : v.Ordered) (hstack : w.stack.Sublist v.stack)
    (hsetup : ∀ e ∈ w.stack, (w.slots e.slot).setup = (v.slots e.slot).setup) : w.Ordered := by
  have hmap : (w.stack.map fun e => (w.slots e.slot).setup.priority) = w.stack.map fun e => (v.slots e.slot).setup.priority :=
    List.map_congr_left fun e he => by rw [hsetup e he]
  rw [View.Ordered, hmap]
  exact h.sublist (hstack.map _)

/-- Slot i becomes y. A port other than that of its burst stays as it was, and where the burst is over its port is settled. -/
structure Flow.Change (v : View) (port : PortIx → Port) (w : View) (port' : PortIx → Port) (i : SlotIx) (y : Slot) : Prop where
  slots : ∀ j, j ≠ i → w.slots j = v.slots j
  slot : w.slots i = y
  record : w.record = v.record
  ports : ∀ p, (v.slots i).OutsideBurst ∨ (v.slots i).setup.port ≠ some p → port' p = port p
  laws : ∀ p, PortLaw (port' p)
  stream : SlotOk v.record port' y
  setup : (v.slots i).InBurst → y.setup = (v.slots i).setup
  settled : (v.slots i).InBurst → y.OutsideBurst → ∀ p, (v.slots i).setup.port = some p → (port' p).Settled

theorem Slot.inBurst_of_not_outside (h : ¬ x.OutsideBurst) : x.InBurst := not_imp_comm.mp Slot.not_inBurst_iff.mp h

/-- Another slot is served as before: its port is not that of the burst of slot i. -/
theorem Flow.Change.stream_ne (hc : Flow.Change v port w port' i y) (h : Flow v port) (hj : j ≠ i) :
    SlotOk w.record port' (w.slots j) := by
  intro l r hl hr
  rw [hc.slots j hj] at hl ⊢
  rw [hc.record] at hr
  obtain ⟨hbound, helement, hserves⟩ := h.streams j l r hl hr
  refine ⟨hbound, helement, fun p hp => ?_⟩
  have hsame : port' p = port p := by
    refine hc.ports p (or_iff_not_imp_left.mpr fun hburst hip => ?_)
    have hidle : (v.slots j).standing ≠ .idle := fun hidle => by simp [Slot.currentLeg, hidle] at hl
    exact h.core.not_bound_of_ne (Slot.inBurst_of_not_outside hburst) hip hj (Slot.boundTo_iff.mpr ⟨hidle, hp⟩)
  rw [hsame]
  exact hserves p hp

theorem Flow.Change.settled_of (hc : Flow.Change v port w port' i y) (h : Flow v port)
    (hp : ∀ j, (w.slots j).boundTo p = true → (w.slots j).OutsideBurst) : (port' p).Settled := by
  by_cases hburst : (v.slots i).InBurst ∧ (v.slots i).setup.port = some p
  · obtain ⟨hburst, hip⟩ := hburst
    refine hc.settled hburst ?_ p hip
    by_contra hin
    have hin := Slot.inBurst_of_not_outside hin
    have hbound : y.boundTo p = true := Slot.boundTo_iff.mpr ⟨hin.not_idle, hc.setup hburst ▸ hip⟩
    exact (hc.slot ▸ hp i (hc.slot ▸ hbound)).not_inBurst hin
  · rw [not_and_or, Slot.not_inBurst_iff] at hburst
    rw [hc.ports p hburst]
    refine h.settled p fun j hbound => ?_
    by_cases hj : j = i
    · subst hj
      exact hburst.resolve_right fun hport => hport (Slot.boundTo_iff.mp hbound).2
    · exact hc.slots j hj ▸ hp j (hc.slots j hj ▸ hbound)

/-- A change of one slot keeps the law where it keeps the core and the order of the stack. -/
theorem Flow.change (h : Flow v port) (hcore : w.Core) (hordered : w.Ordered) (hc : Flow.Change v port w port' i y) :
    Flow w port' where
  core := hcore
  ordered := hordered
  ports := hc.laws
  streams j := by
    by_cases hj : j = i
    · rw [hj, hc.slot, hc.record]
      exact hc.stream
    · exact hc.stream_ne h hj
  settled _ hp := hc.settled_of h hp

/-- The slots left on the stack keep their setup: they are in a burst. -/
theorem Flow.Change.ordered (hc : Flow.Change v port w port' i y) (h : Flow v port) (hstack : w.stack.Sublist v.stack) : w.Ordered := by
  refine h.ordered.of_sublist hstack fun e he => ?_
  by_cases hi : e.slot = i
  · rw [hi, hc.slot]
    exact hc.setup (hi ▸ h.core.inBurst_of_mem (hstack.subset he))
  · rw [hc.slots e.slot hi]

end Sys2Proof.Machine
end

section
/-! # How a view and its ports may change under the law

One lemma for each way a command changes a slot, the mover or a port. -/

namespace Sys2Proof.Machine

variable {v w : View} {port port' : PortIx → Port} {i j : SlotIx} {l : LegIx} {x y : Slot} {r : LegRecord} {p : PortIx}
  {record record' : LegIx → Option LegRecord} {st : LegState} {m : Mover} {stack : List Suspended} {q : Port}

/-! ## Streams of a slot in a burst -/

/-- A slot in a burst needs a port that suits its leg and holds the words, or the places, of the burst. -/
theorem InStream.inBurst (hy : y.InBurst) (hbound : r.port = y.setup.port) (helement : y.element < r.burst)
    (hserves : ∀ p, y.setup.port = some p → (port p).Suits r ∧ (port p).Holds r y.element) : InStream port y r where
  bound := hbound
  element _ := helement
  serves p hp := by
    obtain ⟨hsuits, hholds⟩ := hserves p hp
    refine ⟨fun _ => hsuits, fun _ => hholds, fun hready => ?_⟩
    obtain ⟨l, hl⟩ := Slot.isReady_iff.mp hready
    exact absurd hy (Slot.outsideBurst_of_betweenBursts (st := .ready) rfl hl).not_inBurst

/-- What a slot in a burst has of its port (R54, R55). -/
theorem InStream.suits_holds (h : InStream port x r) (hx : x.InBurst) (hp : x.setup.port = some p) :
    (port p).Suits r ∧ (port p).Holds r x.element := by
  obtain ⟨l, st, hst, hne⟩ := hx.standing
  exact ⟨h.suits hne hst hp, (h.serves p hp).holds hx⟩

/-- Between ACTIVE and SUSPENDED a slot keeps its stream. -/
theorem InStream.turn (h : InStream port x r) (hx : x.InBurst) (hy : y.InBurst) (hsetup : y.setup = x.setup)
    (helement : y.element = x.element) : InStream port y r :=
  .inBurst hy (hsetup ▸ h.bound) (helement ▸ h.element hx) fun _ hp => helement ▸ h.suits_holds hx (hsetup ▸ hp)

theorem SlotOk.turn (h : SlotOk record port x) (hx : x.InBurst) (hy : y.InBurst) (hleg : y.currentLeg = x.currentLeg)
    (hsetup : y.setup = x.setup) (helement : y.element = x.element) : SlotOk record port y := fun l r hl hr =>
  (h l r (hleg ▸ hl) hr).turn hx hy hsetup helement

/-! ## One slot, with the ports as they were -/

theorem Slot.inBurst_congr (hactive : y.isActive = x.isActive) (hsuspended : y.isSuspended = x.isSuspended) :
    y.InBurst ↔ x.InBurst := by
  simp only [Slot.InBurst, hactive, hsuspended]

/-- A slot that does not leave a burst changes, and no port does. -/
theorem Flow.change_slot (h : Flow v port) (hslots : ∀ j, j ≠ i → w.slots j = v.slots j) (hslot : w.slots i = y)
    (hrecord : w.record = v.record) (hstays : (v.slots i).InBurst → y.InBurst ∧ y.setup = (v.slots i).setup)
    (hstream : SlotOk v.record port y) : Flow.Change v port w port i y where
  slots := hslots
  slot := hslot
  record := hrecord
  ports _ _ := rfl
  laws := h.ports
  stream := hstream
  setup hi := (hstays hi).2
  settled hi hout := absurd (hstays hi).1 hout.not_inBurst

theorem Flow.set (h : Flow v port) (hcore : (v.set i y).Core) (hactive : y.isActive = (v.slots i).isActive)
    (hsuspended : y.isSuspended = (v.slots i).isSuspended) (hsetup : (v.slots i).InBurst → y.setup = (v.slots i).setup)
    (hstream : SlotOk v.record port y) : Flow (v.set i y) port := by
  have hc : Flow.Change v port (v.set i y) port i y :=
    h.change_slot (fun j hj => View.set_slots_ne hj) (View.set_slots_same v i y) rfl
      (fun hi => ⟨(Slot.inBurst_congr hactive hsuspended).mpr hi, hsetup hi⟩) hstream
  exact h.change hcore (hc.ordered h (.refl _)) hc

/-- What the law says of the mover stays where one slot changes and stays in its burst, or outside one. -/
theorem Law.of_flow_set (h : Law v port) (hflow : Flow (v.set i y) port') (hactive : y.isActive = (v.slots i).isActive)
    (hsetup : (v.slots i).InBurst → y.setup = (v.slots i).setup) (hready : y.isReady = true → v.mover ≠ .idle) :
    Law (v.set i y) port' := by
  have hpriority {j : SlotIx} (hj : (v.slots j).InBurst) : ((v.set i y).slots j).setup = (v.slots j).setup := by
    by_cases hji : j = i
    · subst hji
      rw [View.set_slots_same]
      exact hsetup hj
    · rw [View.set_slots_ne hji]
  refine ⟨hflow, fun j snap hm => ?_, fun j snap hm e he => ?_, fun hm => ⟨(h.idle hm).1, ?_⟩⟩
  · have hj := h.served j snap hm
    by_cases hji : j = i
    · subst hji
      rw [View.set_slots_same]
      exact hactive.trans hj
    · rwa [View.set_slots_ne hji]
  · rw [hpriority (h.core.inBurst_of_mem he), hpriority (.inl (h.served j snap hm))]
    exact h.above j snap hm e he
  · refine View.forall_set (P := fun _ x => x.isReady = false) (fun j _ => (h.idle hm).2 j) ?_
    by_contra hy
    exact hready (by simpa using hy) hm

theorem Law.set (h : Law v port) (hcore : (v.set i y).Core) (hactive : y.isActive = (v.slots i).isActive)
    (hsuspended : y.isSuspended = (v.slots i).isSuspended) (hsetup : (v.slots i).InBurst → y.setup = (v.slots i).setup)
    (hstream : SlotOk v.record port y) (hready : y.isReady = true → v.mover ≠ .idle) : Law (v.set i y) port :=
  h.of_flow_set (h.toFlow.set hcore hactive hsuspended hsetup hstream) hactive hsetup hready

/-- A slot in no burst is replaced by another in no burst. -/
theorem Law.set_outside (h : Law v port) (hcore : (v.set i y).Core) (hx : (v.slots i).OutsideBurst) (hy : y.OutsideBurst)
    (hstream : SlotOk v.record port y) (hready : y.isReady = true → v.mover ≠ .idle) : Law (v.set i y) port :=
  h.set hcore (hy.1.trans hx.1.symm) (hy.2.trans hx.2.symm) (fun hi => absurd hi hx.not_inBurst) hstream hready

/-- A slot changes fields that no law but the core asks about. -/
theorem Law.set_context (h : Law v port) (hcore : (v.set i y).Core) (hstanding : y.standing = (v.slots i).standing)
    (hsetup : y.setup = (v.slots i).setup) (helement : y.element = (v.slots i).element) : Law (v.set i y) port := by
  refine h.set hcore (by simp only [Slot.isActive, hstanding]) (by simp only [Slot.isSuspended, hstanding]) (fun _ => hsetup)
    ((h.streams i).congr hstanding hsetup helement) fun hready hm => ?_
  have hready' : (v.slots i).isReady = true := by simpa only [Slot.isReady, hstanding] using hready
  rw [(h.idle hm).2 i] at hready'
  cases hready'

/-- The mover changes while no slot does. -/
theorem Flow.set_mover (h : Flow v port) (hcore : View.Core { v with mover := m }) : Flow { v with mover := m } port :=
  ⟨hcore, h.ordered, h.ports, h.streams, h.settled⟩

/-! ## Grant, suspension, pop -/

theorem Slot.burstStart_element (x : Slot) (l : LegIx) : (x.burstStart l).1.element = x.element := by
  rw [Slot.burstStart_eq]

/-- A READY slot's burst starts with the words or places its request condition warrants (R36, R50, R132). -/
theorem Flow.stream_burstStart (h : Flow v port) (hi : (v.slots i).standing = .inLeg l .ready) :
    SlotOk v.record port ((v.slots i).burstStart l).1 := by
  intro k r hk hr
  obtain rfl : l = k := Option.some.inj ((Slot.currentLeg_burstStart _ l).symm.trans hk)
  have hout : (v.slots i).OutsideBurst := Slot.outsideBurst_of_betweenBursts (st := .ready) rfl hi
  have hstream := h.streams i l r (Slot.currentLeg_of_standing hi) hr
  have hzero : ((v.slots i).burstStart l).1.element = 0 := (Slot.burstStart_element _ l).trans ((h.core.element i).zero hout)
  refine .inBurst (Slot.inBurst_of_active (Slot.burstStart_standing _ l)) (hstream.bound.trans (by rw [Slot.burstStart_setup]))
    (hzero ▸ (h.core.legal l r hr).burst_pos) fun p hp => ?_
  rw [Slot.burstStart_setup] at hp
  have hsuits := hstream.suits (by simp) hi hp
  have hsettled : (port p).Settled := h.settled p fun j hj =>
    h.core.binding j i p hj (Slot.boundTo_iff.mpr ⟨by simp [hi], hp⟩) ▸ hout
  rw [hzero]
  exact ⟨hsuits, hsuits.holds_zero (h.ports p) ((hstream.serves p hp).ready (Slot.isReady_iff.mpr ⟨l, hi⟩)) hsettled⟩

/-- A grant to a READY slot above the stack, while the mover serves no slot (R75, R82). -/
theorem Flow.grant (h : Flow v port) (hfree : v.Free) (hi : (v.slots i).standing = .inLeg l .ready) (habove : v.Above i) :
    Law { v.set i ((v.slots i).burstStart l).1 with mover := .busy i ((v.slots i).burstStart l).2 } port := by
  have hout : (v.slots i).OutsideBurst := Slot.outsideBurst_of_betweenBursts (st := .ready) rfl hi
  have hsame := View.set_slots_same v i ((v.slots i).burstStart l).1
  have hc : Flow.Change v port { v.set i ((v.slots i).burstStart l).1 with mover := .busy i ((v.slots i).burstStart l).2 } port i
      ((v.slots i).burstStart l).1 :=
    h.change_slot (fun j hj => View.set_slots_ne hj) hsame rfl (fun hin => absurd hin hout.not_inBurst) (h.stream_burstStart hi)
  refine ⟨h.change (h.core.move (.grant hi hfree)) (hc.ordered h (.refl _)) hc, fun j snap hm => ?_, fun j snap hm e he => ?_,
    fun hm => by cases hm⟩
  · obtain ⟨rfl, -⟩ := Mover.busy.inj hm
    exact (congrArg Slot.isActive hsame).trans (Slot.isActive_of_standing (Slot.burstStart_standing _ l))
  · obtain ⟨rfl, -⟩ := Mover.busy.inj hm
    have hne : e.slot ≠ i := fun he' => (he' ▸ h.core.inBurst_of_mem he).elim (by simp [hout.1]) (by simp [hout.2])
    have hother := View.set_slots_ne (v := v) (y := ((v.slots i).burstStart l).1) hne
    show ((v.set i _).slots e.slot).setup.priority < ((v.set i _).slots i).setup.priority
    rw [hother, hsame, Slot.burstStart_setup]
    exact habove e he

/-- A suspension puts the ACTIVE slot, which stands above the stack, on top of it (R79). -/
theorem Law.suspend (h : Law v port) {snap : Snapshot} (hi : (v.slots i).standing = .inLeg l .active)
    (hmover : v.mover = .busy i snap) (hdepth : v.stack.length < 3) :
    Flow
      { v.set i { v.slots i with standing := .inLeg l .suspended } with
        stack := { slot := i, snapshot := snap } :: v.stack, mover := .idle } port := by
  have hin := Slot.inBurst_of_active hi
  have hsame := View.set_slots_same v i { v.slots i with standing := .inLeg l .suspended }
  have hin' : Slot.InBurst { v.slots i with standing := .inLeg l .suspended } := Slot.inBurst_of_suspended rfl
  have hc : Flow.Change v port
      { v.set i { v.slots i with standing := .inLeg l .suspended } with
        stack := { slot := i, snapshot := snap } :: v.stack, mover := .idle } port i
      { v.slots i with standing := .inLeg l .suspended } :=
    h.change_slot (fun j hj => View.set_slots_ne hj) hsame rfl (fun _ => ⟨hin', rfl⟩)
      ((h.streams i).turn hin hin' (Slot.currentLeg_of_standing hi).symm rfl rfl)
  have hpriority (j : SlotIx) :
      ((v.set i { v.slots i with standing := .inLeg l .suspended }).slots j).setup = (v.slots j).setup := by
    by_cases hj : j = i
    · rw [hj, hsame]
    · rw [View.set_slots_ne hj]
  refine h.change (h.core.move (.suspend hi hmover hdepth)) ?_ hc
  have hordered := h.ordered
  have habove := h.above i snap hmover
  simp only [View.Ordered, View.Above, hpriority, List.map_cons, List.pairwise_cons, List.mem_map,
    forall_exists_index, and_imp, forall_apply_eq_imp_iff₂] at hordered habove ⊢
  exact ⟨habove, hordered⟩

/-- A pop makes the top of the stack ACTIVE again, above the rest (R83). -/
theorem Flow.pop (h : Flow v port) {top : Suspended} {rest : List Suspended} (hstack : v.stack = top :: rest)
    (hi : (v.slots top.slot).standing = .inLeg l .suspended) (hfree : v.Free) :
    Law
      { v.set top.slot { v.slots top.slot with standing := .inLeg l .active } with
        stack := rest, mover := .busy top.slot top.snapshot } port := by
  have hin := Slot.inBurst_of_suspended hi
  have hsame := View.set_slots_same v top.slot { v.slots top.slot with standing := .inLeg l .active }
  have hin' : Slot.InBurst { v.slots top.slot with standing := .inLeg l .active } := Slot.inBurst_of_active rfl
  have hc : Flow.Change v port
      { v.set top.slot { v.slots top.slot with standing := .inLeg l .active } with
        stack := rest, mover := .busy top.slot top.snapshot } port top.slot
      { v.slots top.slot with standing := .inLeg l .active } :=
    h.change_slot (fun j hj => View.set_slots_ne hj) hsame rfl (fun _ => ⟨hin', rfl⟩)
      ((h.streams top.slot).turn hin hin' (Slot.currentLeg_of_standing hi).symm rfl rfl)
  have hpriority (j : SlotIx) :
      ((v.set top.slot { v.slots top.slot with standing := .inLeg l .active }).slots j).setup = (v.slots j).setup := by
    by_cases hj : j = top.slot
    · rw [hj, hsame]
    · rw [View.set_slots_ne hj]
  have hordered := h.ordered
  refine ⟨h.change (h.core.move (.pop hstack hi hfree)) (hc.ordered h (by simp [hstack])) hc, fun j snap hm => ?_,
    fun j snap hm e he => ?_, fun hm => by cases hm⟩
  · obtain ⟨rfl, -⟩ := Mover.busy.inj hm
    exact (congrArg Slot.isActive hsame).trans (Slot.isActive_of_standing rfl)
  · obtain ⟨rfl, -⟩ := Mover.busy.inj hm
    simp only [View.Ordered, hstack, List.map_cons, List.pairwise_cons, List.mem_map, forall_exists_index, and_imp,
      forall_apply_eq_imp_iff₂] at hordered
    simp only [hpriority]
    exact hordered.1 e he

/-! ## A burst moves on, and ends -/

/-- The port of slot i alone changes, into one that keeps its law. -/
structure OwnPort (port port' : PortIx → Port) (x : Slot) : Prop where
  other : ∀ p, x.setup.port ≠ some p → port' p = port p
  law : ∀ p, x.setup.port = some p → PortLaw (port' p)

theorem OwnPort.laws (ho : OwnPort port port' x) (h : ∀ p, PortLaw (port p)) (p : PortIx) : PortLaw (port' p) := by
  by_cases hp : x.setup.port = some p
  · exact ho.law p hp
  · exact ho.other p hp ▸ h p

/-- A slot in a burst leaves it, with its port settled (R60, R67). -/
theorem Flow.leave (h : Flow v port) (hi : (v.slots i).InBurst) (ho : OwnPort port port' (v.slots i))
    (hcore : View.Core { v.set i y with stack := stack, mover := m }) (hstack : stack.Sublist v.stack)
    (hsetup : y.setup = (v.slots i).setup) (hsettled : ∀ p, (v.slots i).setup.port = some p → (port' p).Settled)
    (hstream : SlotOk v.record port' y) : Flow { v.set i y with stack := stack, mover := m } port' := by
  have hc : Flow.Change v port { v.set i y with stack := stack, mover := m } port' i y :=
    { slots := fun j hj => View.set_slots_ne hj
      slot := View.set_slots_same v i y
      record := rfl
      ports := fun p hp => ho.other p (hp.resolve_left fun hout => hout.not_inBurst hi)
      laws := ho.laws h.ports
      stream := hstream
      setup := fun _ => hsetup
      settled := fun _ _ => hsettled }
  exact h.change hcore (hc.ordered h hstack) hc

/-- The slot that the mover serves moves a word and is not at the end of its burst (R54–R57). -/
theorem Law.step (h : Law v port) {w : Word} (hi : (v.slots i).standing = .inLeg l .active) (hr : v.record l = some r)
    (ho : OwnPort port port' (v.slots i)) (hown : ∀ p, (v.slots i).setup.port = some p → port' p = (port p).carried r w)
    (hcore : (v.set i y).Core) (hstanding : y.standing = (v.slots i).standing) (hsetup : y.setup = (v.slots i).setup)
    (helement : y.element = (v.slots i).element + 1) (hmore : (v.slots i).element + 1 < r.burst) : Law (v.set i y) port' := by
  have hin := Slot.inBurst_of_active hi
  have hactive : y.standing = .inLeg l .active := hstanding.trans hi
  have hin' := Slot.inBurst_of_active hactive
  have hstream := h.streams i l r (Slot.currentLeg_of_standing hi) hr
  have hnew : SlotOk v.record port' y := by
    intro k q hk hq
    obtain rfl : l = k := Option.some.inj ((Slot.currentLeg_of_standing hactive).symm.trans hk)
    obtain rfl : r = q := Option.some.inj (hr.symm.trans hq)
    refine .inBurst hin' (hsetup ▸ hstream.bound) (helement ▸ hmore) fun p hp => ?_
    rw [hsetup] at hp
    obtain ⟨hsuits, hholds⟩ := hstream.suits_holds hin hp
    rw [hown p hp, helement]
    exact ⟨hsuits.carried w, hholds.carried hsuits⟩
  have hc : Flow.Change v port (v.set i y) port' i y :=
    { slots := fun j hj => View.set_slots_ne hj
      slot := View.set_slots_same v i y
      record := rfl
      ports := fun p hp => ho.other p (hp.resolve_left fun hout => hout.not_inBurst hin)
      laws := ho.laws h.ports
      stream := hnew
      setup := fun _ => hsetup
      settled := fun _ hout => absurd hin' hout.not_inBurst }
  refine h.of_flow_set (h.change hcore (hc.ordered h.toFlow (.refl _)) hc) ?_ (fun _ => hsetup) fun hready => ?_
  · simp only [Slot.isActive, hstanding]
  · obtain ⟨k, hk⟩ := Slot.isReady_iff.mp hready
    simp [hactive] at hk

/-! ## A port alone -/

/-- The ports with one replaced. -/
theorem Law.set_port (h : Law v port) (hlaw : PortLaw q) (hsettled : (port p).Settled → q.Settled)
    (hserves : ∀ i l r, (v.slots i).currentLeg = some l → v.record l = some r → (v.slots i).setup.port = some p →
      q.Serves (v.slots i) r) : Law v (Function.update port p q) := by
  refine ⟨⟨h.core, h.ordered, fun p' => ?_, fun i l r hl hr => ?_, fun p' hp' => ?_⟩, h.served, h.above, h.idle⟩
  · by_cases hp : p' = p
    · rw [hp, Function.update_self]
      exact hlaw
    · rw [Function.update_of_ne hp]
      exact h.ports p'
  · obtain ⟨hbound, helement, hold⟩ := h.streams i l r hl hr
    refine ⟨hbound, helement, fun p' hp' => ?_⟩
    by_cases hp : p' = p
    · rw [hp, Function.update_self]
      exact hserves i l r hl hr (hp ▸ hp')
    · rw [Function.update_of_ne hp]
      exact hold p' hp'
  · have hold := h.settled p' hp'
    by_cases hp : p' = p
    · rw [hp, Function.update_self]
      exact hsettled (hp ▸ hold)
    · rw [Function.update_of_ne hp]
      exact hold

/-- A step of a port that takes nothing from a slot. -/
theorem Law.keeps_port (h : Law v port) (hk : (port p).Keeps q) : Law v (Function.update port p q) := by
  refine h.set_port (hk.law (h.ports p)) hk.settled fun i l r hl hr hp => ?_
  obtain ⟨hsuits, hholds, hready⟩ := (h.streams i l r hl hr).serves p hp
  refine ⟨fun hf => hk.suits r (hsuits hf), fun hburst => ?_, fun hr => hk.condition (hready hr)⟩
  exact hk.holds r _ ((h.streams i l r hl hr).suits_holds hburst hp).1 (hholds hburst)

/-- A slot in a leg that does not keep its port is FAULTED (R125). -/
theorem Slot.faulted_of_not_keepsPort (h : x.keepsPort = false) (hl : x.currentLeg = some l) :
    ∃ k f, x.standing = .inLeg k (.faulted f) := by
  cases hx : x.standing with
  | inLeg k st =>
    cases st with
    | faulted f => exact ⟨k, f, rfl⟩
    | _ => simp [Slot.keepsPort, hx] at h
  | _ => simp [Slot.currentLeg, hx] at hl

/-- A port is set up again while no slot that is bound to it counts on it (R125). -/
theorem Law.setUp_port (h : Law v port) (hlaw : PortLaw q) (hsettled : q.Settled)
    (hfree : ∀ i, (v.slots i).boundTo p = true → (v.slots i).keepsPort = false) : Law v (Function.update port p q) := by
  refine h.set_port hlaw (fun _ => hsettled) fun i l r hl hr hp => ?_
  have hidle : (v.slots i).standing ≠ .idle := fun hidle => by simp [Slot.currentLeg, hidle] at hl
  have hkeeps := hfree i (Slot.boundTo_iff.mpr ⟨hidle, hp⟩)
  obtain ⟨k, f, hk⟩ := Slot.faulted_of_not_keepsPort hkeeps hl
  have hstream := InStream.faulted (port := Function.update port p q) hk (h.streams i l r hl hr).bound
  simpa using hstream.serves p hp

end Sys2Proof.Machine
end

section
/-! # The law of a state through the arbiter and the slot table

`State.Sound` is the law of what a state shows. Each operation of the transfer side keeps it; this file goes from the leg check and the
arbiter to the claims on a slot. -/

namespace Sys2Proof.Machine

variable {s t u : State} {i j : SlotIx} {l n : LegIx} {r rn : LegRecord} {snap : Snapshot} {st st' : LegState} {y : Slot}
  {port : Option PortIx} {p : PortIx}

/-- The laws of the transfer side but for the pins: `State.transferLaw_iff`. -/
def State.Sound (s : State) : Prop := Law s.view s.port

theorem State.port_congr (h : t.ports = s.ports) : t.port = s.port := funext fun p => congrArg (Vector.get · p) h

/-- The law of a state whose view and ports are known. -/
theorem State.Sound.of_law {v : View} (h : Law v s.port) (hview : t.view = v) (hports : t.ports = s.ports) : t.Sound := by
  rw [State.Sound, hview, State.port_congr hports]
  exact h

theorem State.Sound.congr (h : s.Sound) (hview : t.view = s.view) (hports : t.ports = s.ports) : t.Sound := .of_law h hview hports

/-! ## The leg check -/

/-- The leg check's binding match, where the leg is legal (R30). -/
theorem bindingMatch_iff (h : portToPort r.src r.dst = false) : bindingMatch port r = true ↔ r.port = port := by
  rcases LegRecord.port_cases h with ⟨p, hsrc, hdst, hport, -⟩ | ⟨p, hsrc, hdst, hport, -⟩ | ⟨hsrc, hdst, hport⟩ <;>
    cases port <;> simp [bindingMatch, hsrc, hdst, hport]

/-- The leg check's port setup, where the binding matches (R30). -/
theorem portSuits_iff (h : portToPort r.src r.dst = false) (hport : r.port = port) :
    portSuits port r s.ports = true ↔ ∀ p, port = some p → (s.port p).Suits r := by
  subst hport
  have hside (p : PortIx) (hp : r.port = some p) : (if r.srcPort = some p then Direction.inward else .outward) = r.side := by
    rcases LegRecord.port_cases h with ⟨q, hsrc, hdst, hq, hs⟩ | ⟨q, hsrc, hdst, hq, hs⟩ | ⟨hsrc, hdst, hq⟩
    · rw [hsrc, ← hq, hp, hs, if_pos rfl]
    · rw [hsrc, hs, if_neg (by simp)]
    · cases hq.symm.trans hp
  cases hp : r.port with
  | none => simp [portSuits]
  | some p =>
    simp only [portSuits, hside p hp, Bool.and_eq_true, decide_eq_true_eq, Option.some.injEq, forall_eq']
    exact ⟨fun ⟨⟨h1, h2⟩, h3⟩ => ⟨h1, h2, h3⟩, fun ⟨h1, h2, h3⟩ => ⟨⟨h1, h2⟩, h3⟩⟩

/-- What a leg that passes the check has (R30). -/
theorem State.bound_of_legCheck (h : s.legCheck port l = true) (hr : (s.leg l).record = some r)
    (hlegal : portToPort r.src r.dst = false) : r.port = port ∧ ∀ p, port = some p → (s.port p).Suits r := by
  simp only [State.legCheck, hr, Bool.and_eq_true] at h
  obtain ⟨hmatch, hsuits⟩ := h
  have hbound := (bindingMatch_iff hlegal).mp hmatch
  exact ⟨hbound, (portSuits_iff hlegal hbound).mp hsuits⟩

/-- A slot that stands between bursts in a leg that passes the check for its PORT. -/
theorem State.Sound.slotOk_of_legCheck (h : s.Sound) (hcheck : s.legCheck y.setup.port l = true)
    (hst : st.betweenBursts = true) (hready : st ≠ .ready) (hy : y.standing = .inLeg l st) : SlotOk s.view.record s.port y := by
  intro k r hk hr
  obtain rfl : l = k := Option.some.inj ((Slot.currentLeg_of_standing hy).symm.trans hk)
  obtain ⟨hbound, hsuits⟩ := State.bound_of_legCheck hcheck hr (h.core.legal l r hr).endpoints
  exact .betweenBursts hst hy hbound hsuits fun hst' => absurd hst' hready

/-! ## The best ready slot -/

/-- The place of a slot among the ready ones: the PRIORITY, and within a level the turn, the first highest (R74). -/
def State.rank (s : State) (j : SlotIx) : Nat :=
  (s.slot j).setup.priority.val * 16 + (15 - turn (s.arb.pointers.get (s.slot j).setup.priority) j)

/-- Of two slots the one of higher place goes before the other. -/
theorem State.before_of_rank_le (h : s.rank j ≤ s.rank i) (hne : j ≠ i) : s.before i j = true := by
  have hi : turn (s.arb.pointers.get (s.slot i).setup.priority) i < 16 := Nat.mod_lt _ (by decide)
  have hj : turn (s.arb.pointers.get (s.slot j).setup.priority) j < 16 := Nat.mod_lt _ (by decide)
  unfold State.rank at h
  simp only [State.before, Bool.or_eq_true, Bool.and_eq_true, decide_eq_true_eq]
  by_cases hlt : (s.slot j).setup.priority < (s.slot i).setup.priority
  · exact .inl hlt
  · have hle : (s.slot i).setup.priority.val ≤ (s.slot j).setup.priority.val := Fin.not_lt.mp hlt
    have heq : (s.slot i).setup.priority = (s.slot j).setup.priority := Fin.ext (by omega)
    rw [heq] at h hi ⊢
    have hturn : turn (s.arb.pointers.get (s.slot j).setup.priority) i ≠ turn (s.arb.pointers.get (s.slot j).setup.priority) j := by
      intro hsame
      unfold turn at hsame
      exact hne (Fin.ext (by omega))
    exact .inr ⟨rfl, by omega⟩

/-- With no best ready slot, none is READY (R74). -/
theorem State.not_ready_of_bestReady_none (h : s.bestReady = none) (i : SlotIx) : (s.slot i).isReady = false := by
  by_contra hready
  have hi : i ∈ Finset.univ.filter fun j => (s.slot j).isReady = true := by simpa using hready
  obtain ⟨m, hm, hmax⟩ := Finset.exists_max_image _ s.rank ⟨i, hi⟩
  have hbest := List.find?_eq_none.mp h m (by simpa [State.readySet] using hm)
  refine hbest (List.all_eq_true.mpr fun j hj => ?_)
  by_cases hjm : j = m
  · simp [hjm]
  · simp [State.before_of_rank_le (hmax j (by simpa [State.readySet] using hj)) hjm]

/-! ## The arbiter -/

/-- A grant of a READY slot above the stack (R75, R82). -/
theorem State.sound_grant (h : Flow s.view s.port) (hfree : s.view.Free) (hi : (s.slot i).standing = .inLeg l .ready)
    (habove : s.view.Above i) : (s.grant i).Sound :=
  .of_law (h.grant hfree hi habove) (State.view_grant hi) (by simp)

theorem State.sound_pop {top : Suspended} {rest : List Suspended} (h : Flow s.view s.port) (hfree : s.view.Free)
    (hstack : s.arb.stack = top :: rest) : (s.pop top rest).Sound := by
  obtain ⟨l, hi⟩ := Slot.isSuspended_iff.mp (h.core.burst.suspended_of_mem (hstack ▸ List.mem_cons_self))
  have hi : (s.slot top.slot).standing = .inLeg l .suspended := hi
  refine .of_law (h.pop hstack hi hfree) ?_ (by simp)
  simp only [State.pop, hi]
  simp

/-- The selection at a release (R81, R82). -/
theorem State.sound_select (h : Flow s.view s.port) (hfree : s.view.Free) : s.select.Sound := by
  have hidle : Flow (s.setMover .idle).view s.port :=
    h.set_mover (h.core.moves (State.moves_setMover (m := .idle) hfree (by simp)))
  unfold State.select
  split
  · next hstack hbest =>
    exact {
      toFlow := hidle
      served := fun _ _ hm => Mover.noConfusion hm
      above := fun _ _ hm => Mover.noConfusion hm
      idle := fun _ => ⟨hstack, State.not_ready_of_bestReady_none hbest⟩ }
  · next q hstack hbest =>
    obtain ⟨l, hl⟩ := State.bestReady_standing hbest
    exact State.sound_grant (s := s.setMover .idle) hidle (by simp [View.Free]) hl
      fun e he => absurd he (by simp [hstack])
  · next hstack _ => exact State.sound_pop h hfree hstack
  · next top rest q hstack hbest =>
    split
    · next habove =>
      obtain ⟨l, hl⟩ := State.bestReady_standing hbest
      refine State.sound_grant h hfree hl fun e he => ?_
      have hordered := h.ordered
      simp only [View.Ordered, State.view_stack, hstack, List.map_cons, List.pairwise_cons, List.mem_map, forall_exists_index,
        and_imp, forall_apply_eq_imp_iff₂] at hordered
      rcases List.mem_cons.mp (hstack ▸ he : e ∈ top :: rest) with rfl | he
      · exact habove.1
      · exact (hordered.1 e he).trans habove.1
    · exact State.sound_pop h hfree hstack

/-- A slot goes from one state between bursts to another but READY. -/
theorem State.Sound.turn (h : s.Sound) (hi : (s.slot i).standing = .inLeg l st) (hst : st.betweenBursts = true)
    (hy : y.standing = .inLeg l st') (hst' : st'.betweenBursts = true) (hready : st' ≠ .ready)
    (hsetup : y.setup = (s.slot i).setup) (helement : y.element = (s.slot i).element) (hview : t.view = s.view.set i y)
    (hports : t.ports = s.ports) : t.Sound := by
  have hout : (s.slot i).OutsideBurst := Slot.outsideBurst_of_betweenBursts hst hi
  have hout' : y.OutsideBurst := Slot.outsideBurst_of_betweenBursts hst' hy
  have hleg : y.currentLeg = (s.slot i).currentLeg := by
    rw [Slot.currentLeg_of_standing hy, Slot.currentLeg_of_standing hi]
  have hstream : SlotOk s.view.record s.port y := fun k r hk hr => by
    have hx := h.streams i k r (hleg ▸ hk) hr
    have hne : ∀ f, st ≠ .faulted f := fun f hf => by simp [hf, LegState.betweenBursts] at hst
    exact .betweenBursts hst' hy (hsetup ▸ hx.bound) (fun p hp => hx.suits hne hi (hsetup ▸ hp)) fun hr => absurd hr hready
  have hcore : (s.view.set i y).Core := h.core.set hout hout'
    (fun p hp => Slot.boundTo_iff.mpr ⟨by simp [hi], hsetup ▸ (Slot.boundTo_iff.mp hp).2⟩)
    (helement.trans ((h.core.element i).zero hout)) fun k hk => h.core.loaded i k (hleg ▸ hk)
  refine .of_law (h.set_outside hcore hout hout' hstream fun hy' => ?_) hview hports
  obtain ⟨k, hk⟩ := Slot.isReady_iff.mp hy'
  rw [hy] at hk
  exact absurd (Standing.inLeg.inj hk).2 hready

theorem State.Sound.setLegState (h : s.Sound) (hi : (s.slot i).standing = .inLeg l st) (hst : st.betweenBursts = true)
    (hst' : st'.betweenBursts = true) (hready : st' ≠ .ready) : (s.setLegState i l st').Sound :=
  h.turn hi hst (y := { s.slot i with standing := .inLeg l st' }) rfl hst' hready rfl rfl (State.view_setLegState s i l st') rfl

/-- An eligible ARMED slot may become READY: a bound one has its request condition (R36, R132). -/
theorem State.Sound.slotOk_ready (h : s.Sound) (hi : (s.slot i).standing = .inLeg l .armed)
    (hgrounds : (s.slot i).grounds s.ports = true) :
    SlotOk s.view.record s.port { s.slot i with standing := .inLeg l .ready } := fun k r hk hr => by
  obtain rfl := Option.some.inj hk
  have hx := h.streams i l r (Slot.currentLeg_of_standing hi) hr
  exact .betweenBursts (l := l) (st := .ready) rfl rfl hx.bound (fun p hp => hx.suits (st := .armed) (by simp) hi hp)
    fun _ p hp => (Slot.grounds_bound hp s.ports).symm.trans hgrounds

theorem State.Sound.evaluate (h : s.Sound) (i : SlotIx) : (s.evaluate i).Sound := by
  by_cases harmed : ∃ l, (s.slot i).standing = .inLeg l .armed
  · obtain ⟨l, hi⟩ := harmed
    by_cases hgrounds : (s.slot i).grounds s.ports = true
    · have hout : (s.slot i).OutsideBurst := Slot.outsideBurst_of_betweenBursts (st := .armed) rfl hi
      have hout' : Slot.OutsideBurst { s.slot i with standing := .inLeg l .ready } :=
        Slot.outsideBurst_of_betweenBursts (st := .ready) rfl rfl
      have hstream := h.slotOk_ready hi hgrounds
      have hcore : (s.view.set i { s.slot i with standing := .inLeg l .ready }).Core :=
        s.view_setLegState i l .ready ▸ h.core.moves (State.moves_turn hi (.inl rfl) rfl)
      by_cases hmover : s.arb.mover = .idle
      · rw [State.evaluate_of_idle hi hgrounds hmover]
        have hflow : Flow (s.setLegState i l .ready).view s.port := by
          rw [State.view_setLegState]
          exact h.toFlow.set hcore (hout'.1.trans hout.1.symm) (hout'.2.trans hout.2.symm)
            (fun hin => absurd hin hout.not_inBurst) hstream
        refine State.sound_grant (s := s.setLegState i l .ready) (l := l) hflow (by simp [View.Free, hmover])
          (by simp [State.slot_setLegState]) fun e he => ?_
        simp only [State.view_setLegState, View.set_stack, State.view_stack] at he
        have hstack : s.arb.stack = [] := (h.idle hmover).1
        rw [hstack] at he
        cases he
      · rw [State.evaluate_of_not_idle hi hgrounds hmover]
        exact .of_law (h.set_outside hcore hout hout' hstream fun _ => hmover) (State.view_setLegState ..) rfl
    · rwa [State.evaluate_of_not_grounds hi hgrounds]
  · rwa [State.evaluate_of_not_armed (not_exists.mp harmed)]

theorem State.Sound.signal (h : s.Sound) (p : PortIx) (was : Bool) : (s.signal p was).Sound := by
  unfold State.signal
  split
  · split
    · exact h.evaluate _
    · exact h
  · exact h

/-- A grant does not ask what the mover did before. -/
theorem State.grant_setMover (s : State) (m : Mover) (hi : (s.slot i).standing = .inLeg l .ready) :
    (s.setMover m).grant i = s.grant i :=
  (State.grant_eq (s := s.setMover m) hi).trans (State.grant_eq hi).symm

/-- A preemption suspends the ACTIVE slot and grants one above it (R79). -/
theorem State.Sound.preemptionCheck (h : s.Sound) (hi : (s.slot i).standing = .inLeg l .active)
    (hmover : s.arb.mover = .busy i snap) : (s.preemptionCheck i l snap).Sound := by
  have hbegins : s.elementBegins.Sound := h.congr s.view_elementBegins (by simp)
  unfold State.preemptionCheck
  split
  · next q hq =>
    split
    · next hpreempts =>
      obtain ⟨habove, -, -, hdepth⟩ := hpreempts
      obtain ⟨lq, hready⟩ := State.bestReady_standing hq
      have hne : i ≠ q := by
        rintro rfl
        simp [hi] at hready
      let pushed := (s.setLegState i l .suspended).setStack ({ slot := i, snapshot := snap } :: s.arb.stack)
      have hready' : (pushed.slot q).standing = .inLeg lq .ready := by
        simpa [pushed, State.slot_setLegState, hne] using hready
      have hview : (pushed.setMover .idle).view =
          { s.view.set i { s.slot i with standing := .inLeg l .suspended } with
            stack := { slot := i, snapshot := snap } :: s.view.stack, mover := .idle } := by
        simp [pushed]
      have hflow : Flow (pushed.setMover .idle).view s.port := by
        rw [hview]
        exact h.suspend hi hmover hdepth
      rw [← State.grant_setMover pushed .idle hready']
      refine State.sound_grant (s := pushed.setMover .idle) hflow (by simp [View.Free]) hready' fun e he => ?_
      have hpriority (j : SlotIx) : ((pushed.setMover .idle).slot j).setup = (s.slot j).setup := by
        simp only [pushed, State.slot_setMover, State.slot_setStack, State.slot_setLegState]
        split
        · next hij => rw [hij]
        · rfl
      simp only [State.view_slots, hpriority]
      rcases List.mem_cons.mp (show e ∈ { slot := i, snapshot := snap } :: s.view.stack from he) with rfl | he
      · exact habove
      · exact (h.above i snap hmover e he).trans habove
    · exact hbegins
  · exact hbegins

/-! ## Claims on a slot -/

theorem State.Sound.holdFlag (h : s.Sound) (i : SlotIx) (hold : Bool) :
    (s.updSlot i fun x => { x with holdRequested := hold }).Sound :=
  .of_law (h.set_context (h.core.move (.holdFlag (i := i) hold)) rfl rfl rfl) (State.view_updSlot ..) rfl

theorem State.Sound.hold? (h : s.Sound) (ht : s.hold? i = some t) : t.Sound := by
  unfold State.hold? at ht
  split at ht <;> simp only [Option.some.injEq, reduceCtorEq] at ht <;> subst ht
  · next hi => exact (h.setLegState hi rfl (st' := .held) rfl (by simp)).congr rfl rfl
  · next hi => exact (h.setLegState hi rfl (st' := .held) rfl (by simp)).congr rfl rfl
  · next hi => exact (h.setLegState hi rfl (st' := .held) rfl (by simp)).congr rfl rfl
  · exact h.holdFlag i true
  · exact h.holdFlag i true
  · exact h

theorem State.Sound.addCredits {k : Nat} (h : s.Sound) (ht : s.addCredits i k = .ok t) : t.Sound := by
  unfold State.addCredits at ht
  split at ht
  · cases ht
  · split at ht
    · cases ht
    · split at ht
      · cases ht
      · next hcap =>
        cases ht
        refine State.Sound.evaluate ?_ i
        exact .of_law (h.set_context (h.core.move (.credit (i := i) k (Nat.le_of_not_lt hcap))) rfl rfl rfl)
          (State.view_updSlot ..) rfl

theorem State.Sound.arm (h : s.Sound) (ht : s.arm i = .ok t) : t.Sound := by
  unfold State.arm at ht
  split at ht
  · next hrest =>
    split at ht
    · cases ht
    · next l _ =>
      split at ht
      · cases ht
      · next hport =>
        split at ht
        · next hcheck =>
          split at ht
          · next r hrec =>
            cases ht
            refine State.Sound.evaluate ?_ i
            refine .of_law (h.set_outside (y := { (s.slot i).entered l r .armed with credits := 0, holdRequested := false })
              (h.core.move (.arm hrest (State.portFree_of_portTaken hport) hrec))
              (Slot.outsideBurst_of_atRest hrest) (Slot.outsideBurst_of_betweenBursts (st := .armed) rfl rfl)
              (h.slotOk_of_legCheck hcheck (st := .armed) rfl (by simp) rfl) fun hready => ?_) (by simp) rfl
            simp [Slot.isReady, Slot.entered] at hready
          · cases ht
        · cases ht
  · cases ht

end Sys2Proof.Machine
end

section
/-! # The law of a state where a burst ends

A burst leaves its port settled and its slot outside a burst: by a commit, a fault or a cancel. Leg-end processing then writes the slot's
next state, so its operations ask the law of the state but for that slot: `State.Ends`, and `State.Rests` where the slot may go on with
its leg. -/

namespace Sys2Proof.Machine

variable {v : View} {port port' : PortIx → Port} {s t u : State} {i j : SlotIx} {l n : LegIx} {r rn : LegRecord} {snap : Snapshot}
  {st : LegState} {x y : Slot} {p : PortIx} {f : Port → Port} {m : Mover} {stack : List Suspended}

/-! ## A slot leaves its burst -/

theorem View.Core.leave (h : v.Core) (hi : (v.slots i).InBurst) (hburst : View.BurstLaw { v.set i y with stack := stack, mover := m })
    (hsetup : y.setup = (v.slots i).setup) (helement : y.element = 0)
    (hloaded : ∀ l, y.currentLeg = some l → (v.record l).isSome = true) : View.Core { v.set i y with stack := stack, mover := m } where
  binding := h.binding.set_setup hi.not_idle hsetup
  burst := hburst
  element := View.forall_set (P := fun _ => ElementOk) (fun j _ => h.element j) (.of_zero helement)
  legal := h.legal
  loaded := View.forall_set (P := fun _ x => ∀ l, x.currentLeg = some l → (v.record l).isSome = true)
    (fun j _ => h.loaded j) hloaded

/-- The ACTIVE slot leaves its burst, and the mover stands at its release (R59, R92, R45). -/
theorem Law.release (h : Law v port) (hi : (v.slots i).standing = .inLeg l .active) (hmover : v.mover = .busy i snap)
    (ho : OwnPort port port' (v.slots i)) (hsettled : ∀ p, (v.slots i).setup.port = some p → (port' p).Settled)
    (hy : y.OutsideBurst) (hsetup : y.setup = (v.slots i).setup) (helement : y.element = 0)
    (hleg : ∀ k, y.currentLeg = some k → k = l) (hstream : SlotOk v.record port' y) :
    Law { v.set i y with mover := .releasing 0 0 } port' := by
  have hin := Slot.inBurst_of_active hi
  have hloaded (k : LegIx) (hk : y.currentLeg = some k) : (v.record k).isSome = true :=
    h.core.loaded i k (hleg k hk ▸ Slot.currentLeg_of_standing hi)
  have hcore := h.core.leave hin (h.core.burst.set_released hmover hi hy (.releasing 0 0)) hsetup helement hloaded
  exact (h.toFlow.leave hin ho hcore (.refl _) hsetup hsettled hstream).law_of_releasing rfl

/-- A SUSPENDED slot becomes IDLE and leaves the stack (R85). -/
theorem Law.unstack (h : Law v port) (hi : (v.slots i).isSuspended = true) (ho : OwnPort port port' (v.slots i))
    (hsettled : ∀ p, (v.slots i).setup.port = some p → (port' p).Settled) (hy : y.standing = .idle)
    (hsetup : y.setup = (v.slots i).setup) (helement : y.element = 0) :
    Law { v.set i y with stack := v.stack.filter fun e => decide (e.slot ≠ i) } port' := by
  have hin : (v.slots i).InBurst := .inr hi
  have hout : y.OutsideBurst := ⟨by simp [Slot.isActive, hy], by simp [Slot.isSuspended, hy]⟩
  have hleg : y.currentLeg = none := by simp [Slot.currentLeg, hy]
  have hcore := h.core.leave (m := v.mover) hin (h.core.burst.cancelSuspended hout) hsetup helement fun k hk => by
    rw [hleg] at hk
    cases hk
  have hsub := List.filter_sublist (l := v.stack) (p := fun e => decide (e.slot ≠ i))
  have hflow := h.toFlow.leave hin ho hcore hsub hsetup hsettled (.of_no_leg hleg)
  have hother {j : SlotIx} (hj : (v.slots j).isActive = true) : j ≠ i := by
    rintro rfl
    obtain ⟨l, hl⟩ := Slot.isSuspended_iff.mp hi
    simp [Slot.isActive, hl] at hj
  refine ⟨hflow, fun j snap hm => ?_, fun j snap hm e he => ?_, fun hm => ⟨?_, ?_⟩⟩
  · have hj := h.served j snap hm
    show ((v.set i y).slots j).isActive = true
    rwa [View.set_slots_ne (hother hj)]
  · obtain ⟨he, hei⟩ := List.mem_filter.mp he
    show ((v.set i y).slots e.slot).setup.priority < ((v.set i y).slots j).setup.priority
    rw [View.set_slots_ne (by simpa using hei), View.set_slots_ne (hother (h.served j snap hm))]
    exact h.above j snap hm e he
  · exact List.filter_eq_nil_iff.mpr fun e he => by simp [(h.idle hm).1] at he
  · exact View.forall_set (P := fun _ x => x.isReady = false) (fun j _ => (h.idle hm).2 j) (by simp [Slot.isReady, hy])

/-- Either reset leaves every slot IDLE (R193, R195). -/
theorem Law.reset (h : v.Core) {record : LegIx → Option LegRecord} (hrecord : ∀ l, record l = v.record l ∨ record l = none)
    (hlaw : ∀ p, PortLaw (port p)) (hsettled : ∀ p, (port p).Settled) :
    Law { slots := fun _ => Slot.initial, stack := [], mover := .idle, record := record } port where
  core := h.move (.reset record hrecord)
  ordered := .nil
  ports := hlaw
  streams _ := .of_no_leg rfl
  settled p _ := hsettled p
  served _ _ hm := Mover.noConfusion hm
  above _ _ hm := Mover.noConfusion hm
  idle _ := ⟨rfl, fun _ => rfl⟩

/-! ## The port of the burst -/

theorem State.sound_of_view (h : Law v port) (hview : t.view = v) (hport : t.port = port) : t.Sound := by
  rw [State.Sound, hview, hport]
  exact h

/-- The port of a leg changed: `State.settleBack` and `State.settleCommit` in one. -/
def State.settle (s : State) (f : Port → Port) (l : LegIx) : State :=
  match s.legPort l with
  | some p => s.updPort p f
  | none => s

theorem State.settleBack_eq_settle (s : State) (l : LegIx) : s.settleBack l = s.settle Port.settledBack l := rfl

theorem State.settleCommit_eq_settle (s : State) (l : LegIx) : s.settleCommit l = s.settle Port.committedWords l := rfl

theorem State.port_settle (hr : (s.leg l).record = some r) (f : Port → Port) (p : PortIx) :
    (s.settle f l).port p = if r.port = some p then f (s.port p) else s.port p := by
  have hport : s.legPort l = r.port := by simp only [State.legPort, hr, LegRecord.port]
  unfold State.settle
  rw [hport]
  cases r.port with
  | none => simp
  | some q =>
    by_cases hq : q = p
    · subst hq
      simp
    · simp [hq]

theorem State.port_rollback (s : State) (i : SlotIx) (l : LegIx) (snap : Snapshot) :
    (s.rollback i l snap).port = (s.settle Port.settledBack l).port := by
  have hport : (s.updSlot i fun x => x.rolledBack snap).legPort l = s.legPort l := rfl
  rw [State.rollback, State.settleBack_eq_settle, State.settle, State.settle, hport]
  cases s.legPort l <;> rfl

/-- A slot that stands in a leg is bound to the leg's port (R30). -/
theorem State.Sound.leg_port (h : s.Sound) (hl : (s.slot i).currentLeg = some l) :
    ∃ r, (s.leg l).record = some r ∧ r.port = (s.slot i).setup.port := by
  obtain ⟨r, hr⟩ := Option.isSome_iff_exists.mp (h.core.loaded i l hl)
  exact ⟨r, hr, (h.streams i l r hl hr).bound⟩

theorem State.Sound.port_settle (h : s.Sound) (hl : (s.slot i).currentLeg = some l) (f : Port → Port) (p : PortIx) :
    (s.settle f l).port p = if (s.slot i).setup.port = some p then f (s.port p) else s.port p := by
  obtain ⟨r, hr, hport⟩ := h.leg_port hl
  rw [State.port_settle hr, hport]

theorem State.Sound.ownPort_settle (h : s.Sound) (hl : (s.slot i).currentLeg = some l) (hf : ∀ q, PortLaw q → PortLaw (f q)) :
    OwnPort s.port (s.settle f l).port (s.slot i) where
  other p hp := by rw [h.port_settle hl, if_neg hp]
  law p hp := by
    rw [h.port_settle hl, if_pos hp]
    exact hf _ (h.ports p)

theorem State.Sound.settled_settle (h : s.Sound) (hl : (s.slot i).currentLeg = some l) (hf : ∀ q, (f q).Settled)
    (hp : (s.slot i).setup.port = some p) : ((s.settle f l).port p).Settled := by
  rw [h.port_settle hl, if_pos hp]
  exact hf _

theorem Port.settled_settledBack (q : Port) : q.settledBack.Settled := ⟨rfl, rfl⟩

theorem Port.settled_committedWords (q : Port) : q.committedWords.Settled := ⟨rfl, rfl⟩

/-! ## Leg-end processing -/

/-- The law holds but for slot i, which ends a burst or a run in leg l and whose state is about to be written. -/
structure State.Ends (s : State) (i : SlotIx) (l : LegIx) : Prop where
  law : ∃ x : Slot, x.OutsideBurst ∧ x.standing ≠ .idle ∧ x.setup = (s.slot i).setup ∧ Law (s.view.set i x) s.port
  element : (s.slot i).element = 0
  loaded : (s.leg l).record.isSome = true
  bound : ∀ r, (s.leg l).record = some r → r.port = (s.slot i).setup.port

/-- And the slot's port still suits the leg. -/
structure State.Rests (s : State) (i : SlotIx) (l : LegIx) : Prop extends s.Ends i l where
  suits : ∀ r p, (s.leg l).record = some r → (s.slot i).setup.port = some p → (s.port p).Suits r

theorem State.Ends.congr (h : s.Ends i l) (hview : t.view = s.view) (hports : t.ports = s.ports) : t.Ends i l := by
  obtain ⟨hlaw, helement, hloaded, hbound⟩ := h
  have hslot : t.slot i = s.slot i := State.slot_of_view hview i
  have hrecord : (t.leg l).record = (s.leg l).record := congrFun (congrArg View.record hview) l
  refine ⟨?_, hslot ▸ helement, hrecord ▸ hloaded, ?_⟩
  · rw [hview, hslot, State.port_congr hports]
    exact hlaw
  · rw [hrecord, hslot]
    exact hbound

/-- The slot's next state is written. -/
theorem State.Ends.sound (h : s.Ends i l) (hview : t.view = s.view.set i y) (hports : t.ports = s.ports) (hy : y.OutsideBurst)
    (hsetup : y.setup = (s.slot i).setup) (helement : y.element = 0)
    (hloaded : ∀ k, y.currentLeg = some k → (s.leg k).record.isSome = true) (hstream : SlotOk s.view.record s.port y)
    (hready : y.isReady = false) : t.Sound := by
  obtain ⟨⟨x, hx, hidle, hsetup', hlaw⟩, -, -, -⟩ := h
  have hsame := View.set_slots_same s.view i x
  have hcore := hlaw.core.set (i := i) (y := y) (hsame.symm ▸ hx) hy
    (fun p hp => by
      rw [hsame, Slot.boundTo_iff, hsetup', ← hsetup]
      exact ⟨hidle, (Slot.boundTo_iff.mp hp).2⟩)
    helement hloaded
  have hset := hlaw.set_outside hcore (hsame.symm ▸ hx) hy hstream fun hr => by
    rw [hready] at hr
    cases hr
  rw [View.set_set] at hset
  exact .of_law hset hview hports

/-- The slot is FAULTED in the leg (R62, R65, R92). -/
theorem State.Ends.enterFaulted (h : s.Ends i l) (cause : FaultCause) : (s.enterFaulted i l cause 0).Sound := by
  refine h.sound (s.view_enterFaulted i l cause 0) (by simp) (Slot.outsideBurst_of_faulted rfl) rfl h.element (fun k hk => ?_)
    (fun k r hk hr => ?_) rfl
  · exact Option.some.inj hk ▸ h.loaded
  · obtain rfl : l = k := Option.some.inj hk
    exact .faulted rfl (h.bound r hr)

theorem State.Ends.chainEnds (h : s.Ends i l) : (s.chainEnds i l).Sound :=
  h.sound (y := { s.slot i with standing := .done, credits := 0, legRun := false, holdRequested := false })
    (by simp [State.chainEnds]) (by simp) ⟨rfl, rfl⟩ rfl h.element (fun k hk => by cases hk) (.of_no_leg rfl) rfl

/-- The slot goes on between bursts in its leg. -/
theorem State.Rests.sound (h : s.Rests i l) (hview : t.view = s.view.set i y) (hports : t.ports = s.ports)
    (hst : st.betweenBursts = true) (hready : st ≠ .ready) (hy : y.standing = .inLeg l st)
    (hsetup : y.setup = (s.slot i).setup) (helement : y.element = (s.slot i).element) : t.Sound := by
  refine h.toEnds.sound hview hports (Slot.outsideBurst_of_betweenBursts hst hy) hsetup (helement.trans h.element)
    (fun k hk => ?_) (fun k r hk hr => ?_) ?_
  · exact Option.some.inj ((Slot.currentLeg_of_standing hy).symm.trans hk) ▸ h.loaded
  · obtain rfl : l = k := Option.some.inj ((Slot.currentLeg_of_standing hy).symm.trans hk)
    exact .betweenBursts hst hy ((h.bound r hr).trans (by rw [hsetup])) (fun p hp => h.suits r p hr (hsetup ▸ hp))
      fun hst' => absurd hst' hready
  · by_contra hr
    obtain ⟨k, hk⟩ := Slot.isReady_iff.mp (by simpa using hr)
    rw [hy] at hk
    exact hready (Standing.inLeg.inj hk).2

theorem State.Rests.becomeHeld (h : s.Rests i l) : (s.becomeHeld i l).Sound :=
  h.sound (s.view_becomeHeld i l) (by simp) (st := .held) rfl (by simp) rfl rfl rfl

theorem State.Rests.goOn (h : s.Rests i l) (atCommit : Bool) : (s.goOn i l atCommit).Sound := by
  unfold State.goOn
  split
  · exact h.sound (s.view_setLegState i l _) rfl (st := .paced _) rfl (by simp) rfl rfl rfl
  · exact (h.sound (t := s.setLegState i l .armed) (s.view_setLegState i l _) rfl (st := .armed) rfl (by simp) rfl rfl
      rfl).evaluate i

/-- The entry of a leg that passes the leg check (R66). -/
theorem State.Ends.entersNext (h : s.Ends i l) (hcheck : s.legCheck (s.slot i).setup.port n = true)
    (hn : (s.leg n).record = some rn) (atCommit : Bool) : (s.entersNext i l r n rn atCommit).Sound := by
  obtain ⟨x, hx, hidle, hsetup, hlaw⟩ := h.law
  have hview : (((s.updSlot i fun x => x.entered n rn .armed).unpin l).pin n).view = s.view.set i ((s.slot i).entered n rn .armed) := by
    simp
  have hslot : (((s.updSlot i fun x => x.entered n rn .armed).unpin l).pin n).slot i = (s.slot i).entered n rn .armed :=
    (State.slot_of_view hview i).trans (View.set_slots_same _ _ _)
  have hrecord (k : LegIx) : ((((s.updSlot i fun x => x.entered n rn .armed).unpin l).pin n).leg k).record = (s.leg k).record :=
    congrFun (congrArg View.record hview) k
  obtain ⟨hbound, hsuits⟩ := State.bound_of_legCheck hcheck hn (hlaw.core.legal n rn hn).endpoints
  have hrests : State.Rests (((s.updSlot i fun x => x.entered n rn .armed).unpin l).pin n) i n := by
    refine ⟨⟨⟨x, hx, hidle, hsetup.trans (by rw [hslot]; rfl), ?_⟩, by rw [hslot]; rfl, by rw [hrecord, hn]; rfl, fun q hq => ?_⟩,
      fun q p hq hp => ?_⟩
    · rw [hview, View.set_set]
      exact hlaw
    · obtain rfl : rn = q := Option.some.inj (hn.symm.trans ((hrecord n).symm.trans hq))
      rw [hslot]
      exact hbound
    · obtain rfl : rn = q := Option.some.inj (hn.symm.trans ((hrecord n).symm.trans hq))
      rw [hslot] at hp
      exact hsuits p hp
  unfold State.entersNext
  dsimp only
  split
  · exact hrests.becomeHeld
  · exact hrests.goOn atCommit

theorem State.Ends.legEndStep3 (h : s.Ends i l) (r : LegRecord) (atCommit : Bool) : (s.legEndStep3 i l r atCommit).Sound := by
  unfold State.legEndStep3
  split
  · exact h.chainEnds
  · split
    · next hn =>
      split
      · next hcheck => exact h.entersNext hcheck hn atCommit
      · exact h.enterFaulted .leg
    · exact h.enterFaulted .leg

theorem State.Ends.legEndStep2 (h : s.Ends i l) (r : LegRecord) (atCommit : Bool) : (s.legEndStep2 i l r atCommit).Sound := by
  have hpass {t : State} (ht : t.Ends i l) : ((t.pass .legEnd i).legEndStep3 i l r atCommit).Sound :=
    State.Ends.legEndStep3 (ht.congr (t.view_pass _ _) (by simp)) r atCommit
  unfold State.legEndStep2
  dsimp only
  split
  · exact hpass (h.congr (s.view_report _) rfl)
  · exact hpass h

theorem State.Ends.legEndStep1 (h : s.Ends i l) (r : LegRecord) : (s.legEndStep1 i l r).Sound := by
  unfold State.legEndStep1
  split
  · exact h.enterFaulted _
  · exact h.legEndStep2 r true

theorem State.Rests.afterBurst (h : s.Rests i l) (r : LegRecord) : (s.afterBurst i l r).Sound := by
  unfold State.afterBurst
  split
  · exact h.toEnds.legEndStep1 r
  · split
    · exact h.becomeHeld
    · exact h.goOn true

end Sys2Proof.Machine
end

section
/-! # The law of a state through the release, the resets, the element and the trigger table -/

namespace Sys2Proof.Machine

variable {s t u : State} {i j : SlotIx} {l : LegIx} {r : LegRecord} {snap : Snapshot} {p : PortIx} {f : Port → Port} {w : Word}
  {cause : FaultCause} {c n k : Nat} {x : Slot}

/-! ## Cancels and the release -/

theorem State.slot_rollback (s : State) (i : SlotIx) (l : LegIx) (snap : Snapshot) :
    (s.rollback i l snap).slot i = (s.slot i).rolledBack snap :=
  (State.slot_of_view (s.view_rollback i l snap) i).trans (View.set_slots_same _ _ _)

theorem State.Sound.cancelSuspended (h : s.Sound) (hi : (s.slot i).standing = .inLeg l .suspended) : (s.cancelSuspended i l).Sound := by
  have hleg := Slot.currentLeg_of_standing hi
  have hsuspended : (s.slot i).isSuspended = true := Slot.isSuspended_iff.mpr ⟨l, hi⟩
  obtain ⟨e, he, hei⟩ := List.mem_map.mp ((h.core.burst.places i).suspended.mp hsuspended)
  obtain ⟨snap, hsnap⟩ : ∃ snap, s.stackSnapshot i = some snap := by
    refine Option.isSome_iff_exists.mp ?_
    rw [State.stackSnapshot, Option.isSome_map, List.find?_isSome]
    exact ⟨e, he, by simpa using hei⟩
  have hlaw := Law.unstack (y := ((s.slot i).rolledBack snap).cancelled) h hsuspended
    (h.ownPort_settle hleg fun _ => Port.portLaw_settledBack) (fun p => h.settled_settle hleg Port.settled_settledBack) rfl rfl rfl
  refine State.sound_of_view hlaw ?_ ?_
  · simp only [State.cancelSuspended, hsnap, State.view_idleFrom, State.view_setStack, State.slot_setStack, State.slot_rollback]
    simp [View.set]
  · simp only [State.cancelSuspended, hsnap]
    exact s.port_rollback i l snap

/-- A slot that is in no burst becomes IDLE (R44). -/
theorem State.Sound.cancelled (h : s.Sound) (hi : (s.slot i).OutsideBurst) (hidle : (s.slot i).standing ≠ .idle)
    (hview : t.view = s.view.set i (s.slot i).cancelled) (hports : t.ports = s.ports) : t.Sound := by
  have hcore : (s.view.set i (s.slot i).cancelled).Core :=
    h.core.set hi ⟨rfl, rfl⟩ (fun p hp => Slot.boundTo_iff.mpr ⟨hidle, (Slot.boundTo_iff.mp hp).2⟩) ((h.core.element i).zero hi)
      fun l hl => by cases hl
  exact .of_law (h.set_outside hcore hi ⟨rfl, rfl⟩ (.of_no_leg rfl) fun hready => by cases hready) hview hports

theorem State.Sound.cancelAtOnce (h : s.Sound) (hi : (s.slot i).isActive = false) : (s.cancelAtOnce i).Sound := by
  unfold State.cancelAtOnce
  split
  · exact h
  · next hst =>
    exact h.cancelled (i := i) (Slot.outsideBurst_of_atRest (by simp [Slot.atRest, hst])) (by simp [hst])
      (by simp [State.idleFromDone]) (by simp)
  · next hst => exact h.cancelSuspended hst
  · next l st hne hst =>
    refine h.cancelled ⟨hi, ?_⟩ (by simp [hst]) (State.view_idleFrom ..) (by simp)
    cases st <;> simp_all [Slot.isSuspended]

theorem State.Sound.cancelWaiting (h : s.Sound) (hfree : s.view.Free) : s.cancelWaiting.Sound := by
  rcases State.cancelWaiting_cases (s := s) with ⟨e, i, -, -, hcancel⟩ | ⟨-, hsame⟩
  · rw [hcancel]
    exact h.cancelAtOnce (h.core.burst.not_active hfree i)
  · rwa [hsame]

theorem State.Sound.release (h : s.Sound) (hfree : s.view.Free) : s.release.Sound :=
  State.sound_select (h.cancelWaiting hfree).toFlow (State.free_cancelWaiting hfree)

/-- The release is outstanding. -/
theorem State.Sound.releasing (h : s.Sound) (hfree : s.view.Free) (c n : Nat) : (s.setMover (.releasing c n)).Sound :=
  (h.toFlow.set_mover (m := .releasing c n) (h.core.moves (State.moves_setMover (m := .releasing c n) hfree (by simp)))).law_of_releasing
    rfl

theorem State.Sound.release_stays (h : s.Sound) (hfree : s.view.Free) (now : Prop) [Decidable now] (c n : Nat) :
    ((if now then s.cancelWaiting else s).setMover (.releasing c n)).Sound := by
  split
  · exact (h.cancelWaiting hfree).releasing (State.free_cancelWaiting hfree) c n
  · exact h.releasing hfree c n

theorem State.Sound.releaseAt (h : s.Sound) (hfree : s.view.Free) (c n : Nat) : (s.releaseAt c n).Sound := by
  unfold State.releaseAt
  split
  · exact h.release hfree
  · exact h.release_stays hfree _ _ _

theorem State.Sound.passPoint (h : s.Sound) : s.passPoint.Sound := by
  unfold State.passPoint
  split
  · next hmover =>
    have hfree : s.view.Free := by simp [View.Free, hmover]
    split
    · exact h.release hfree
    · exact h.release_stays hfree _ _ _
  · exact h

/-! ## ENGINE-RESET -/

theorem State.portLaw_settle (h : ∀ p, PortLaw (s.port p)) (hf : ∀ q, PortLaw q → PortLaw (f q)) (l : LegIx) (p : PortIx) :
    PortLaw ((s.settle f l).port p) := by
  unfold State.settle
  split
  · rw [State.port_updPort]
    split
    · exact hf _ (h _)
    · exact h p
  · exact h p

theorem State.portLaw_rollback (h : ∀ p, PortLaw (s.port p)) (i : SlotIx) (l : LegIx) (snap : Snapshot) (p : PortIx) :
    PortLaw ((s.rollback i l snap).port p) := by
  rw [State.port_rollback]
  exact State.portLaw_settle h (fun _ => Port.portLaw_settledBack) l p

theorem State.portLaw_rollbackStack (h : ∀ p, PortLaw (s.port p)) (stack : List Suspended) (p : PortIx) :
    PortLaw ((s.rollbackStack stack).port p) := by
  induction stack generalizing s with
  | nil => exact h p
  | cons e rest ih =>
    unfold State.rollbackStack
    split
    · exact ih (State.portLaw_rollback h _ _ _)
    · exact ih h

theorem State.portLaw_rollbackAll (h : ∀ p, PortLaw (s.port p)) (p : PortIx) : PortLaw (s.rollbackAll.port p) := by
  unfold State.rollbackAll
  split
  · split
    · exact State.portLaw_rollbackStack (State.portLaw_rollback h _ _ _) _ p
    · exact State.portLaw_rollbackStack h _ p
  · exact State.portLaw_rollbackStack h _ p

theorem State.Sound.engineReset (h : s.Sound) (q : Request) : (s.engineReset q).Sound := by
  have hport (p : PortIx) : (s.engineReset q).port p = (s.rollbackAll.port p).engineReset := by
    simp [State.engineReset, State.resetBlocks, State.port]
  refine State.sound_of_view (Law.reset (port := (s.engineReset q).port) h.core (record := s.view.record) (fun _ => .inl rfl)
    (fun p => ?_) fun p => ?_) ?_ rfl
  · rw [hport]
    exact Port.portLaw_engineReset (State.portLaw_rollbackAll h.ports p)
  · rw [hport]
    exact ⟨rfl, rfl⟩
  · exact State.view_ext (fun j => by simp [State.engineReset, State.resetBlocks, State.slot]) rfl rfl
      fun l => by simp [State.engineReset, State.resetBlocks, State.leg, State.view]

/-! ## The ends of a burst -/

theorem State.Sound.endBurst (h : s.Sound) (hfree : s.view.Free) (c n : Nat) : (s.endBurst c n).Sound := by
  unfold State.endBurst
  split
  · split
    · exact h.engineReset _
    · exact h.releaseAt hfree c n
  · exact h.releaseAt hfree c n

section
variable (h : s.Sound) (hi : (s.slot i).standing = .inLeg l .active) (hmover : s.arb.mover = .busy i snap)
include h hi hmover

theorem State.Sound.elementFails (cause : FaultCause) (c n : Nat) : (s.elementFails c n i l snap cause).Sound := by
  let record : FaultRecord := { cause := cause, leg := l, remaining := (s.slot i).remaining, element := (s.slot i).element }
  have hleg := Slot.currentLeg_of_standing hi
  have hlaw := Law.release (y := (s.slot i).faulted snap l record) h hi hmover
    (h.ownPort_settle hleg fun _ => Port.portLaw_settledBack) (fun p => h.settled_settle hleg Port.settled_settledBack)
    (Slot.outsideBurst_of_faulted rfl) rfl rfl (fun _ hk => (Option.some.inj hk).symm) fun k r hk hr => by
      obtain rfl : l = k := Option.some.inj hk
      exact .faulted rfl (h.streams i l r hleg hr).bound
  have hview : (((s.rollback i l snap).setMover (.releasing 0 0)).enterFaulted i l cause (s.slot i).element).view =
      { s.view.set i ((s.slot i).faulted snap l record) with mover := .releasing 0 0 } := by
    simp only [State.view_enterFaulted, State.slot_setMover, State.slot_rollback, State.view_setMover, State.view_rollback]
    simp only [View.set, Function.update_idem]
    rfl
  refine State.Sound.endBurst (State.sound_of_view hlaw hview ?_) (by simp [hview, View.Free]) c n
  have hports : (((s.rollback i l snap).setMover (.releasing 0 0)).enterFaulted i l cause (s.slot i).element).ports =
      (s.rollback i l snap).ports := by simp
  exact (State.port_congr hports).trans (s.port_rollback i l snap)

theorem State.Sound.cancelActive (n : Nat) (q : Request) : (s.cancelActive n i l snap q).Sound := by
  have hleg := Slot.currentLeg_of_standing hi
  have hlaw := Law.release (y := ((s.slot i).rolledBack snap).cancelled) h hi hmover
    (h.ownPort_settle hleg fun _ => Port.portLaw_settledBack) (fun p => h.settled_settle hleg Port.settled_settledBack)
    (Slot.outsideBurst_cancelled _) rfl rfl (fun _ hk => by cases hk) (.of_no_leg rfl)
  have hview : (((s.rollback i l snap).setMover (.releasing 0 0)).idleFrom i l (s.slot i).element).view =
      { s.view.set i ((s.slot i).rolledBack snap).cancelled with mover := .releasing 0 0 } := by
    simp only [State.view_idleFrom, State.slot_setMover, State.slot_rollback, State.view_setMover, State.view_rollback]
    simp only [View.set, Function.update_idem]
  have hsound : (((s.rollback i l snap).setMover (.releasing 0 0)).idleFrom i l (s.slot i).element).Sound :=
    State.sound_of_view hlaw hview (s.port_rollback i l snap)
  exact State.Sound.releaseAt
    (s := (((s.rollback i l snap).setMover (.releasing 0 0)).idleFrom i l (s.slot i).element).answer q (Reply.bare .ok)) hsound
    (by simp [hview, View.Free]) 0 n

theorem State.Sound.midBurst (n : Nat) : (s.midBurst n i l snap).Sound := by
  unfold State.midBurst
  split
  · split
    · split
      · exact h.cancelActive hi hmover n _
      · exact h.preemptionCheck hi hmover
    · exact h.engineReset _
    · exact h.preemptionCheck hi hmover
  · exact h.preemptionCheck hi hmover

end

/-! ## The element -/

theorem view_wordMoved (s : State) (i : SlotIx) (r : LegRecord) (w : Word) :
    (wordMoved s i r w).view = s.view.set i ((s.slot i).stepped r w) :=
  (State.view_eq (s := s.updSlot i fun x => x.stepped r w) rfl rfl rfl).trans (State.view_updSlot ..)

/-- An element changes the port of its leg alone (R54, R55). -/
theorem port_wordMoved (h : portToPort r.src r.dst = false) (hobtains : Obtains s r (s.slot i) w) (hroom : HasRoom s r) (p : PortIx) :
    (wordMoved s i r w).port p = if r.port = some p then (s.port p).carried r w else s.port p := by
  have hports : (wordMoved s i r w).ports = ((s.wordRead r).wordWritten r (s.slot i) w).ports := by
    rw [← State.wordMoved_eq hobtains hroom, State.giveBackGrant_eq]
    rfl
  rw [State.port_congr hports]
  unfold State.wordWritten State.wordRead
  rcases LegRecord.port_cases h with ⟨q, hsrc, hdst, hport, hside⟩ | ⟨q, hsrc, hdst, hport, hside⟩ | ⟨hsrc, hdst, hport⟩
  · by_cases hq : q = p
    · subst hq
      simp [hsrc, hdst, hport, Port.carried_inward hside]
    · simp [hsrc, hdst, hport, hq]
  · by_cases hq : q = p
    · subst hq
      simp [hsrc, hdst, hport, Port.carried_outward hside]
    · simp [hsrc, hdst, hport, hq]
  · simp [hsrc, hdst, hport]

/-- The element in flight finds its word: a port has it by the grant's warrant, and a BUFFER word that is not damaged is good (R54). -/
theorem State.exists_obtains
    (hin : ∀ p, r.src = .port p → (s.port p).direction = .inward ∧ (s.port p).tentative < (s.port p).fifo.length)
    (hgood : ∀ path, r.src = .buffer path → s.word x.src ≠ .damaged) : ∃ w, Obtains s r x w := by
  unfold Obtains
  cases hsrc : r.src with
  | buffer path =>
    cases hword : s.word x.src with
    | good v => exact ⟨v, rfl⟩
    | damaged => exact absurd hword (hgood path hsrc)
  | port p =>
    obtain ⟨hdirection, hlt⟩ := hin p hsrc
    exact ⟨_, hdirection, List.getElem?_eq_getElem hlt⟩
  | const v => exact ⟨v, rfl⟩

theorem LegRecord.port_of_src (hsrc : r.src = .port p) :
    r.port = some p ∧ r.side = .inward := by
  rw [← LegRecord.srcPort_eq_some] at hsrc
  simp [LegRecord.port, LegRecord.side, hsrc]

theorem LegRecord.port_of_dst (h : portToPort r.src r.dst = false) (hdst : r.dst = .port p) :
    r.port = some p ∧ r.side = .outward := by
  rw [← LegRecord.dstPort_eq_some] at hdst
  rcases LegRecord.port_cases h with ⟨q, -, hnone, -⟩ | ⟨q, hsrc, -, -, hside⟩ | ⟨-, hnone, -⟩
  · cases hdst.symm.trans hnone
  · exact ⟨by simp [LegRecord.port, hsrc, hdst], hside⟩
  · cases hdst.symm.trans hnone

/-! Steps 1 to 6 of a commit (R59): `State.commit` is `State.afterBurst` on their state. -/

def State.commitSteps (s : State) (i : SlotIx) (l : LegIx) (r : LegRecord) : State :=
  ((((s.settleCommit l).updSlot i fun x => x.burstDone r).setMover (.releasing 0 0)).markStep i l r).pass .burstEnd i

theorem State.commit_eq_afterBurst : s.commit i l r = (s.commitSteps i l r).afterBurst i l r := rfl

theorem State.view_commitSteps :
    (s.commitSteps i l r).view = { s.view.set i ((s.slot i).burstDone r) with mover := .releasing 0 0 } := by
  have hslot : (s.settleCommit l).slot i = s.slot i := State.slot_of_view (s.view_settleCommit l) i
  simp [State.commitSteps, hslot, View.set]

theorem State.port_commitSteps : (s.commitSteps i l r).port = (s.settle Port.committedWords l).port :=
  State.port_congr (by simp [State.commitSteps, State.settleCommit_eq_settle])

/-- An element in flight moves a word or fails: a port has the word, or the place, that the grant warranted (R52–R55). -/
theorem State.Sound.element_moves_or_fails (h : s.Sound) (hflight : InFlight s i l r snap) (k : Nat) :
    (∃ w, ElementMoves s k i l r snap w) ∨ ∃ cause, Fails s k r (s.slot i) cause := by
  obtain ⟨hrun, hmover, hi, hrec, hgrant⟩ := id hflight
  have hin := Slot.inBurst_of_active hi
  have hlegal := (h.core.legal l r hrec).endpoints
  have hstream := h.streams i l r (Slot.currentLeg_of_standing hi) hrec
  have helement : (s.slot i).element < r.burst := hstream.element hin
  have hserves (p : PortIx) (hp : r.port = some p) : (s.port p).Suits r ∧ (s.port p).Holds r (s.slot i).element :=
    hstream.suits_holds hin (hstream.bound ▸ hp)
  have hword (p : PortIx) (hsrc : r.src = .port p) :
      (s.port p).direction = .inward ∧ (s.port p).tentative < (s.port p).fifo.length := by
    obtain ⟨hport, hside⟩ := LegRecord.port_of_src hsrc
    obtain ⟨hsuits, hholds⟩ := hserves p hport
    exact ⟨hsuits.direction.trans hside, hholds.tentative_lt hside helement⟩
  have hroom : HasRoom s r := fun p hdst => by
    obtain ⟨hport, hside⟩ := LegRecord.port_of_dst hlegal hdst
    obtain ⟨hsuits, hholds⟩ := hserves p hport
    exact ⟨hsuits.direction.trans hside, hholds.length_lt hside hsuits helement⟩
  by_cases hread : ∀ p, r.src = .buffer p → moverMayRead (s.elementFences k) (s.slot i).src = true
  · by_cases hwrite : ∀ p, r.dst = .buffer p → moverMayWrite (s.elementFences k) (s.slot i).dst = true
    · by_cases hdamaged : (∃ path, r.src = .buffer path) ∧ s.word (s.slot i).src = .damaged
      · exact .inr ⟨_, .inr (.inr ⟨⟨hread, hwrite⟩, hdamaged.1, hdamaged.2, rfl⟩)⟩
      · obtain ⟨w, hw⟩ := State.exists_obtains hword fun path hsrc hd => hdamaged ⟨⟨path, hsrc⟩, hd⟩
        exact .inl ⟨w, hflight, ⟨hread, hwrite⟩, hw, hroom⟩
    · simp only [not_forall, Bool.not_eq_true] at hwrite
      obtain ⟨p, hdst, hdenied⟩ := hwrite
      exact .inr ⟨_, .inr (.inl ⟨hread, ⟨p, hdst⟩, hdenied, rfl⟩)⟩
  · simp only [not_forall, Bool.not_eq_true] at hread
    obtain ⟨p, hsrc, hdenied⟩ := hread
    exact .inr ⟨_, .inl ⟨⟨p, hsrc⟩, hdenied, rfl⟩⟩

section
variable (h : s.Sound) (hmoves : ElementMoves s k i l r snap w)
include h hmoves

/-- The port of the leg is the port of the slot. -/
theorem State.Sound.port_wordMoved (p : PortIx) :
    (wordMoved s i r w).port p = if (s.slot i).setup.port = some p then (s.port p).carried r w else s.port p := by
  obtain ⟨⟨-, -, hi, hrec, -⟩, -, hobtains, hroom⟩ := hmoves
  have hbound : r.port = (s.slot i).setup.port := (h.streams i l r (Slot.currentLeg_of_standing hi) hrec).bound
  rw [Machine.port_wordMoved (h.core.legal l r hrec).endpoints hobtains hroom, hbound]

/-- What the port of the burst has before its word is moved. -/
theorem State.Sound.port_inFlight (hp : (s.slot i).setup.port = some p) :
    (s.port p).Suits r ∧ PortLaw ((s.port p).carried r w) := by
  obtain ⟨⟨-, -, hi, hrec, -⟩, -⟩ := hmoves
  have hin := Slot.inBurst_of_active hi
  have hstream := h.streams i l r (Slot.currentLeg_of_standing hi) hrec
  obtain ⟨hsuits, hholds⟩ := hstream.suits_holds hin hp
  exact ⟨hsuits, hholds.portLaw_carried hsuits (h.ports p) (hstream.element hin)⟩

/-- An element that is not the last (R57). -/
theorem State.Sound.elementMoved (hmore : (s.slot i).element + 1 < r.burst) : (s.elementMoved i r w).Sound := by
  obtain ⟨⟨-, -, hi, hrec, -⟩, -⟩ := id hmoves
  let y : Slot := { (s.slot i).stepped r w with element := (s.slot i).element + 1 }
  have hport (p : PortIx) : (s.elementMoved i r w).port p = _ := h.port_wordMoved hmoves p
  have hview : (s.elementMoved i r w).view = s.view.set i y := by
    simp only [State.elementMoved, State.view_updSlot, view_wordMoved, slot_wordMoved, View.set_set]
    rfl
  refine State.sound_of_view (Law.step (w := w) (y := y) (port' := (s.elementMoved i r w).port) h hi hrec
    ⟨fun p hp => ?_, fun p hp => ?_⟩ (fun p hp => ?_) ?_ rfl rfl rfl hmore) hview rfl
  · exact (hport p).trans (if_neg hp)
  · rw [(hport p).trans (if_pos hp)]
    exact (h.port_inFlight hmoves hp).2
  · exact (hport p).trans (if_pos hp)
  · exact h.core.move (.element (v := s.view) y.src y.dst y.digest y.element hi)

/-- The port of the leg after the commit's first step (R60). -/
theorem State.Sound.port_commitSteps (p : PortIx) :
    ((wordMoved s i r w).commitSteps i l r).port p =
      if (s.slot i).setup.port = some p then ((s.port p).carried r w).committedWords else s.port p := by
  obtain ⟨⟨-, -, hi, hrec, -⟩, -⟩ := id hmoves
  have hbound : r.port = (s.slot i).setup.port := (h.streams i l r (Slot.currentLeg_of_standing hi) hrec).bound
  rw [State.port_commitSteps, State.port_settle (s := wordMoved s i r w) (l := l) hrec, hbound, h.port_wordMoved hmoves]
  by_cases hp : (s.slot i).setup.port = some p
  · simp only [hp, if_true]
  · simp only [hp, if_false]

theorem State.Sound.suits_commitSteps (hp : (s.slot i).setup.port = some p) :
    (((wordMoved s i r w).commitSteps i l r).port p).Suits r := by
  rw [(h.port_commitSteps hmoves p).trans (if_pos hp)]
  exact ((h.port_inFlight hmoves hp).1.carried w).committedWords

/-- The law after steps 1 to 6 of a commit, were the slot HELD in its leg (R59). -/
theorem State.Sound.law_commitSteps :
    Law { s.view.set i { ((s.slot i).stepped r w).burstDone r with standing := .inLeg l .held } with mover := .releasing 0 0 }
      ((wordMoved s i r w).commitSteps i l r).port := by
  obtain ⟨⟨-, hmover, hi, hrec, -⟩, -⟩ := id hmoves
  have hstream := h.streams i l r (Slot.currentLeg_of_standing hi) hrec
  have hport := h.port_commitSteps hmoves
  refine Law.release h hi hmover ⟨fun p hp => (hport p).trans (if_neg hp), fun p hp => ?_⟩ (fun p hp => ?_)
    (Slot.outsideBurst_of_betweenBursts (st := .held) rfl rfl) rfl rfl (fun k hk => (Option.some.inj hk).symm) fun k q hk hq => ?_
  · rw [(hport p).trans (if_pos hp)]
    exact Port.portLaw_committedWords (h.port_inFlight hmoves hp).2
  · rw [(hport p).trans (if_pos hp)]
    exact Port.settled_committedWords _
  · obtain rfl : l = k := Option.some.inj hk
    obtain rfl : r = q := Option.some.inj (hrec.symm.trans hq)
    exact .betweenBursts (st := .held) rfl rfl hstream.bound (fun p hp => h.suits_commitSteps hmoves hp) (by simp)

/-- After steps 1 to 6 of a commit the slot may go on with its leg, or end it. -/
theorem State.Sound.rests_commitSteps : ((wordMoved s i r w).commitSteps i l r).Rests i l := by
  obtain ⟨⟨-, -, hi, hrec, -⟩, -⟩ := id hmoves
  have hbound : r.port = (s.slot i).setup.port := (h.streams i l r (Slot.currentLeg_of_standing hi) hrec).bound
  have hview : ((wordMoved s i r w).commitSteps i l r).view =
      { s.view.set i (((s.slot i).stepped r w).burstDone r) with mover := .releasing 0 0 } := by
    simp [State.view_commitSteps, view_wordMoved, slot_wordMoved]
  have hslot : ((wordMoved s i r w).commitSteps i l r).slot i = ((s.slot i).stepped r w).burstDone r :=
    (State.slot_of_view hview i).trans (View.set_slots_same _ _ _)
  have hrecord : (((wordMoved s i r w).commitSteps i l r).leg l).record = some r :=
    (congrFun (congrArg View.record hview) l).trans hrec
  refine ⟨⟨⟨{ ((s.slot i).stepped r w).burstDone r with standing := .inLeg l .held },
      Slot.outsideBurst_of_betweenBursts (st := .held) rfl rfl, by simp, by rw [hslot], ?_⟩,
    by rw [hslot]; rfl, by rw [hrecord]; rfl, fun q hq => ?_⟩, fun q p hq hp => ?_⟩
  · rw [hview]
    simpa [View.set] using h.law_commitSteps hmoves
  · obtain rfl : r = q := Option.some.inj (hrecord.symm.trans hq)
    rw [hslot]
    exact hbound
  · obtain rfl : r = q := Option.some.inj (hrecord.symm.trans hq)
    rw [hslot] at hp
    exact h.suits_commitSteps hmoves hp

/-- The last element of a burst commits it (R59). -/
theorem State.Sound.commit : ((wordMoved s i r w).commit i l r).Sound := by
  rw [State.commit_eq_afterBurst]
  exact (h.rests_commitSteps hmoves).afterBurst r

theorem State.Sound.elementCompletes (c n : Nat) : ((wordMoved s i r w).elementCompletes c n i l r snap).Sound := by
  obtain ⟨⟨-, hmover, hi, -⟩, -⟩ := id hmoves
  unfold State.elementCompletes
  rw [slot_wordMoved]
  split
  · next hmore =>
    have hactive : ((s.elementMoved i r w).slot i).standing = .inLeg l .active := by
      rw [State.slot_elementMoved]
      exact hi
    exact (h.elementMoved hmoves hmore).midBurst hactive hmover n
  · exact (h.commit hmoves).endBurst (State.free_commit (wordMoved s i r w) i l r) c n

end

/-- An element in flight goes on and keeps the law. -/
theorem State.Sound.element_inFlight (h : s.Sound) (hflight : InFlight s i l r snap) (o : ElementOrder) :
    ∃ t, execElement o s = .next t ∧ t.Sound := by
  rcases h.element_moves_or_fails hflight o.setsAfterGrant with ⟨w, hmoves⟩ | ⟨cause, hfails⟩
  · exact ⟨_, execElement_of_moves hmoves, h.elementCompletes hmoves _ _⟩
  · obtain ⟨-, hmover, hi, -⟩ := id hflight
    exact ⟨_, execElement_of_fails hflight hfails,
      State.Sound.elementFails (s := { s with bufArb := grantPassedOn r s.bufArb }) h hi hmover cause _ _⟩

/-- ELEMENT goes on and keeps the law (R52). -/
theorem State.Sound.element (h : s.Sound) (o : ElementOrder) : ∃ t, execElement o s = .next t ∧ t.Sound := by
  by_cases hrun : s.phase = .running
  · cases hmover : s.arb.mover with
    | idle => exact ⟨s, by simp only [execElement, hrun, hmover, if_true], h⟩
    | releasing c n =>
      exact ⟨s.release, by simp only [execElement, hrun, hmover, if_true], h.release (by simp [View.Free, hmover])⟩
    | busy i snap =>
      obtain ⟨l, hi⟩ := Slot.isActive_iff.mp (h.served i snap hmover)
      have hi : (s.slot i).standing = .inLeg l .active := hi
      obtain ⟨r, hrec, -⟩ := h.leg_port (Slot.currentLeg_of_standing hi)
      cases hwaits : s.elementWaits r with
      | true => exact ⟨s, by simp only [execElement, hrun, hmover, hi, hrec, hwaits, if_true], h⟩
      | false => exact h.element_inFlight ⟨hrun, hmover, hi, hrec, by simpa [State.elementWaits] using hwaits⟩ o
  · exact ⟨s, by simp only [execElement, hrun, if_false], h⟩

end Sys2Proof.Machine
end

section
/-! # The law of a state through resumes, triggers, the leg store, the ports and time -/

namespace Sys2Proof.Machine

variable {v : View} {port : PortIx → Port} {s t u : State} {i : SlotIx} {l : LegIx} {r : LegRecord} {p : PortIx} {f : Port → Port}
  {x : Slot} {record : LegIx → Option LegRecord}

/-! ## The resume of a FAULTED slot -/

theorem View.set_self (v : View) (i : SlotIx) : v.set i (v.slots i) = v := by simp [View.set]

/-- A slot FAULTED in a leg may end the leg. -/
theorem State.Sound.ends_of_faulted {c : FaultRecord} (h : s.Sound) (hi : (s.slot i).standing = .inLeg l (.faulted c)) : s.Ends i l := by
  have hleg := Slot.currentLeg_of_standing hi
  have hout : (s.slot i).OutsideBurst := Slot.outsideBurst_of_faulted hi
  refine ⟨⟨s.slot i, hout, by simp [hi], rfl, ?_⟩, (h.core.element i).zero hout, h.core.loaded i l hleg,
    fun r hr => (h.streams i l r hleg hr).bound⟩
  have hself : s.view.set i (s.slot i) = s.view := View.set_self s.view i
  rw [hself]
  exact h

/-- The resume at BURST of a slot whose leg passes the leg check (R100). -/
theorem State.Sound.resume_burst {c : FaultRecord} (h : s.Sound) (hi : (s.slot i).standing = .inLeg l (.faulted c))
    (hcheck : s.legCheck (s.slot i).setup.port l = true) : ((s.setLegState i l .armed).evaluate i).Sound := by
  have hends := h.ends_of_faulted hi
  refine State.Sound.evaluate (hends.sound (y := { s.slot i with standing := .inLeg l .armed }) (s.view_setLegState i l .armed) rfl
    (Slot.outsideBurst_of_betweenBursts (st := .armed) rfl rfl) rfl hends.element (fun k hk => ?_) ?_ rfl) i
  · exact Option.some.inj hk ▸ hends.loaded
  · exact h.slotOk_of_legCheck hcheck (st := .armed) rfl (by simp) rfl

/-- A resume acts or is refused: the leg of the slot is LOADED (R12, R99). -/
theorem State.Sound.resumeFaulted {c : FaultRecord} (h : s.Sound) (hi : (s.slot i).standing = .inLeg l (.faulted c)) :
    (∃ t, s.resumeFaulted i l c.cause = .done t ∧ t.Sound) ∨ s.resumeFaulted i l c.cause = .refused := by
  have hends := h.ends_of_faulted hi
  obtain ⟨r, hr⟩ := Option.isSome_iff_exists.mp hends.loaded
  have hburst : (∃ t, (if s.legCheck (s.slot i).setup.port l then Resumed.done ((s.setLegState i l .armed).evaluate i) else .refused) =
      .done t ∧ t.Sound) ∨
      (if s.legCheck (s.slot i).setup.port l then Resumed.done ((s.setLegState i l .armed).evaluate i) else .refused) = .refused := by
    split
    · next hcheck => exact .inl ⟨_, rfl, h.resume_burst hi hcheck⟩
    · exact .inr rfl
  cases hcause : c.cause with
  | fenceRead _ => exact hburst
  | fenceWrite _ => exact hburst
  | parity _ => exact hburst
  | digest _ _ => exact .inl ⟨_, by simp only [State.resumeFaulted, hr], hends.legEndStep2 r false⟩
  | leg => exact .inl ⟨_, by simp only [State.resumeFaulted, hr], hends.legEndStep3 r false⟩

/-! ## The trigger table -/

theorem State.Sound.act (h : s.Sound) (k : TrigIx) (i : SlotIx) (a : Action) : (s.act k i a).Sound := by
  cases a with
  | start =>
    cases ht : s.addCredits i 1 with
    | ok t => simpa only [State.act, ht] using h.addCredits ht
    | error e => simpa only [State.act, ht] using h.congr (s.view_report _) rfl
  | arm =>
    cases ht : s.arm i with
    | ok t => simpa only [State.act, ht] using h.arm ht
    | error e => simpa only [State.act, ht] using h.congr (s.view_report _) rfl
  | hold =>
    cases ht : s.hold? i with
    | some t => simpa only [State.act, ht] using h.hold? ht
    | none => simpa only [State.act, ht] using h.congr (s.view_report _) rfl

theorem State.Sound.fireEntry (h : s.Sound) (e : SlotEvent) (k : TrigIx) : (s.fireEntry e k).Sound := by
  unfold State.fireEntry
  split
  · split
    · have hset : (s.setTrigger k { s.trigger k with enabled := false }).Sound := h.congr rfl rfl
      exact hset.act _ _ _
    · exact h.act _ _ _
  · exact h

theorem State.Sound.scan (h : s.Sound) (e : SlotEvent) : (s.scan e).Sound := by
  unfold State.scan
  generalize List.finRange 32 = ks
  induction ks generalizing s with
  | nil => exact h.passPoint
  | cons k ks ih => exact ih (h.passPoint.fireEntry e k)

/-! ## The leg store -/

/-- What a slot's stream asks of a record: its port, its side and its BURST. -/
theorem InStream.congr_record {q : LegRecord} (h : InStream port x r) (hsrc : q.src = r.src) (hdst : q.dst = r.dst)
    (hburst : q.burst = r.burst) : InStream port x q := by
  obtain ⟨src, dst, burst⟩ := q
  subst hsrc hdst hburst
  exact ⟨h.bound, h.element, fun p hp =>
    have hserves := h.serves p hp
    ⟨fun hf => ⟨(hserves.suits hf).enable, (hserves.suits hf).direction, (hserves.suits hf).burst⟩, hserves.holds, hserves.ready⟩⟩

/-- The records change, and every slot stands by the record of its leg as before. -/
theorem Law.set_record (h : Law v port) (hcore : View.Core { v with record := record })
    (hstreams : ∀ i l r, (v.slots i).currentLeg = some l → record l = some r → InStream port (v.slots i) r) :
    Law { v with record := record } port where
  core := hcore
  ordered := h.ordered
  ports := h.ports
  streams := hstreams
  settled := h.settled
  served := h.served
  above := h.above
  idle := h.idle

/-- LEG-LINK replaces NEXT alone (R18). -/
theorem Law.link (h : Law v port) (hr : v.record l = some r) (n : Option LegIx) :
    Law { v with record := Function.update v.record l (some { r with next := n }) } port := by
  refine h.set_record (h.core.move (.link n hr)) fun i k q hk hq => ?_
  by_cases hkl : k = l
  · subst hkl
    rw [Function.update_self] at hq
    obtain rfl := Option.some.inj hq
    exact (h.streams i k r hk hr).congr_record rfl rfl rfl
  · rw [Function.update_of_ne hkl] at hq
    exact h.streams i k q hk hq

/-- LEG-LOAD replaces the record of a leg that no slot stands in (R14). -/
theorem Law.load (h : Law v port) (hlegal : r.Legal) (hfree : ∀ i, (v.slots i).currentLeg ≠ some l) :
    Law { v with record := Function.update v.record l (some r) } port := by
  have hne {i : SlotIx} {k : LegIx} (hk : (v.slots i).currentLeg = some k) : k ≠ l := fun hkl => hfree i (hkl ▸ hk)
  refine h.set_record ⟨h.core.binding, ⟨h.core.burst.places, h.core.burst.nodup, h.core.burst.depth⟩, h.core.element,
    fun k q hq => ?_, fun i k hk => ?_⟩ fun i k q hk hq => ?_
  · have hq : Function.update v.record l (some r) k = some q := hq
    by_cases hkl : k = l
    · subst hkl
      rw [Function.update_self] at hq
      exact Option.some.inj hq ▸ hlegal
    · rw [Function.update_of_ne hkl] at hq
      exact h.core.legal k q hq
  · show (Function.update v.record l (some r) k).isSome = true
    rw [Function.update_of_ne (hne hk)]
    exact h.core.loaded i k hk
  · rw [Function.update_of_ne (hne hk)] at hq
    exact h.streams i k q hk hq

/-- A record that the check of LEG-LOAD passes is legal (R15). -/
theorem RawLeg.legal_of_checked? {b : List Byte} (h : (RawLeg.ofBytes b).checked? = some r) : r.Legal := by
  unfold RawLeg.checked? at h
  split at h
  · split at h
    · next hchecks =>
      obtain ⟨hburst, hburst', hcount, hmark, hports, hexpect⟩ := hchecks
      cases h
      exact ⟨hburst, hburst', hcount, Nat.le_of_lt_succ (fieldAt_lt b 22 2), hmark, hports, hexpect⟩
    · cases h
  · cases h

/-! ## Time -/

theorem Slot.isReady_tick (x : Slot) : x.tick.isReady = x.isReady := by
  unfold Slot.tick
  split
  · next hx => simp [Slot.isReady, hx]
  · rfl

theorem Slot.setup_tick (x : Slot) : x.tick.setup = x.setup := by
  unfold Slot.tick
  split <;> rfl

theorem SlotOk.tick (h : SlotOk record port x) : SlotOk record port x.tick := by
  unfold Slot.tick
  split
  · next l n hx =>
    intro k r hk hr
    obtain rfl : l = k := Option.some.inj hk
    have hstream := h l r (Slot.currentLeg_of_standing hx) hr
    exact .betweenBursts (st := .paced (n - 1)) rfl rfl hstream.bound (fun p hp => hstream.suits (by simp) hx hp) (by simp)
  · exact h

theorem Law.tick (h : Law v port) : Law { v with slots := fun i => (v.slots i).tick } port := by
  refine { core := h.core.move .tick, ordered := ?_, ports := h.ports, streams := fun i => (h.streams i).tick,
           settled := fun p hp => h.settled p fun i hi => ?_, served := fun i snap hm => ?_, above := fun i snap hm e he => ?_,
           idle := fun hm => ⟨(h.idle hm).1, fun i => ?_⟩ }
  · exact h.ordered.of_sublist (.refl _) fun e _ => Slot.setup_tick _
  · have hout := hp i ((Slot.boundTo_tick _ p).trans hi)
    exact ⟨(Slot.isActive_tick _).symm.trans hout.1, (Slot.isSuspended_tick _).symm.trans hout.2⟩
  · exact (Slot.isActive_tick _).trans (h.served i snap hm)
  · simp only [Slot.setup_tick]
    exact h.above i snap hm e he
  · exact (Slot.isReady_tick _).trans ((h.idle hm).2 i)

theorem State.Sound.tick (h : s.Sound) : s.tick.Sound :=
  State.sound_of_view (Law.tick h) (State.view_ext (fun i => by simp [State.tick, State.slot]) rfl rfl fun _ => rfl) rfl

theorem State.Sound.paceExpires (h : s.Sound) (i : SlotIx) : (s.paceExpires i).Sound := by
  unfold State.paceExpires
  split
  · next hi => exact (h.setLegState hi rfl (st' := .armed) rfl (by simp)).evaluate i
  · exact h

/-! ## The ports -/

theorem State.port_updPort_eq (s : State) (p : PortIx) (f : Port → Port) :
    (s.updPort p f).port = Function.update s.port p (f (s.port p)) :=
  funext fun q => by simp [State.port_updPort, Function.update_apply, eq_comm]

/-- A step of one port that takes nothing from a slot. -/
theorem State.Sound.updPort (h : s.Sound) (hk : (s.port p).Keeps (f (s.port p))) : (s.updPort p f).Sound :=
  State.sound_of_view (h.keeps_port hk) rfl (s.port_updPort_eq p f)

/-- An alarm flag, its counter and the word driven (R133–R135). -/
theorem Port.keeps_overrun (q : Port) : q.Keeps { q with overrun := true, overrunCount := bump q.overrunCount } :=
  Port.keeps_alarms (o := true) (u := q.underrun) bump_le id q.driven

theorem Port.keeps_underrun (q : Port) :
    q.Keeps { q with underrun := true, underrunCount := bump q.underrunCount, driven := some 0 } :=
  Port.keeps_alarms (o := q.overrun) (u := true) id bump_le (some 0)

theorem Port.keeps_alarmsCleared (q : Port) : q.Keeps q.alarmsCleared :=
  Port.keeps_alarms (o := false) (u := false) (fun _ => Nat.zero_le _) (fun _ => Nat.zero_le _) q.driven

theorem Port.keeps_driven (q : Port) (d : Option Word) : q.Keeps { q with driven := d } :=
  Port.keeps_alarms (o := q.overrun) (u := q.underrun) id id d

theorem State.Sound.overruns (h : s.Sound) (p : PortIx) : (s.overruns p).Sound := by
  have hport := h.updPort (p := p) (f := fun x => { x with overrun := true, overrunCount := bump x.overrunCount })
    (Port.keeps_overrun _)
  unfold State.overruns
  dsimp only
  split
  · exact hport
  · exact hport.congr (State.view_report _ _) rfl

theorem State.Sound.underruns (h : s.Sound) (p : PortIx) : (s.underruns p).Sound := by
  have hport := h.updPort (p := p)
    (f := fun x => { x with underrun := true, underrunCount := bump x.underrunCount, driven := some 0 }) (Port.keeps_underrun _)
  unfold State.underruns
  dsimp only
  split
  · exact hport
  · exact hport.congr (State.view_report _ _) rfl

theorem State.Sound.arrive (h : s.Sound) (p : PortIx) (w : Word) : (s.arrive p w).Sound := by
  unfold State.arrive
  split
  · next hin =>
    split
    · next hroom => exact (h.updPort (Port.keeps_arrival hin.1 hroom w)).signal p _
    · exact h.overruns p
  · exact h

theorem State.Sound.takeWord (h : s.Sound) (p : PortIx) : (s.takeWord p).Sound := by
  unfold State.takeWord
  split
  · next hout =>
    split
    · split
      · next hword => exact (h.updPort (Port.keeps_take hout hword _)).signal p _
      · exact h.underruns p
    · exact h.updPort (Port.keeps_driven _ _)
  · exact h

/-- PORT-SETUP of a port that no slot counts on (R125). -/
theorem State.Sound.setUp (h : s.Sound) (hfree : ¬ s.portInUse p = true) {threshold : Nat}
    (hthreshold : 1 ≤ threshold ∧ threshold ≤ 32) (d : Direction) (enable : Bool) : (s.updPort p fun x => x.setUp d threshold enable).Sound := by
  refine State.sound_of_view (h.setUp_port (p := p) (Port.portLaw_setUp (h.ports p) hthreshold d enable) ⟨rfl, rfl⟩ fun i hi => ?_) rfl
    (s.port_updPort_eq p _)
  by_contra hkeeps
  exact hfree (List.any_eq_true.mpr ⟨i, List.mem_finRange i, Bool.and_eq_true_iff.mpr ⟨hi, by simpa using hkeeps⟩⟩)

/-! ## Slot setup -/

/-- SLOT-SETUP of a slot at rest (R24). -/
theorem State.Sound.slotSetup (h : s.Sound) {setup : Setup} (hrest : (s.slot i).atRest = true)
    (hport : ¬ s.portTaken i setup.port = true) : (s.updSlot i fun x => { x with setup := setup }).Sound := by
  have hout : (s.slot i).OutsideBurst := Slot.outsideBurst_of_atRest hrest
  have hleg : (s.slot i).currentLeg = none := by
    cases hx : (s.slot i).standing with
    | inLeg l st => simp [Slot.atRest, hx] at hrest
    | _ => simp [Slot.currentLeg, hx]
  refine .of_law (h.set_outside (y := { s.slot i with setup := setup })
    (h.core.move (.setup setup hrest (State.portFree_of_portTaken hport))) hout hout (.of_no_leg hleg) fun hready => ?_)
    (State.view_updSlot ..) rfl
  obtain ⟨l, hl⟩ := Slot.isReady_iff.mp hready
  have hl : (s.slot i).standing = .inLeg l .ready := hl
  simp [Slot.currentLeg, hl] at hleg

end Sys2Proof.Machine
end

section
/-! # Every command goes on and keeps the law (O59)

One lemma for each row that acts on the transfer side, then the law of the state against `TransferLaw`. -/

namespace Sys2Proof.Machine

variable {s t u : State} {i : SlotIx} {l : LegIx} {r : LegRecord} {P : State → Prop} {x : Slot} {p : PortIx}

/-- The outcome goes on, to a state with the property. -/
def Reaches (P : State → Prop) (o : Host.Outcome State Fault Refusal) : Prop := ∃ t, o = .next t ∧ P t

theorem reaches_next (h : P s) : Reaches P (.next s) := ⟨s, rfl, h⟩

theorem reaches_serve (hlink : ∀ {s t : State}, s.OnlyLink t → P s → P t) {k : ReqKind}
    {owner : Request → State → Host.Outcome State Fault Refusal} (howner : ∀ r t, P t → Reaches P (owner r t)) (h : P s) :
    Reaches P (s.serve k owner) := by
  rcases s.serve_cases k owner with ⟨-, hserve⟩ | ⟨r, t, st, htake, -, hserve⟩ | ⟨r, t, htake, -, hserve⟩
  · exact ⟨s, hserve, h⟩
  · exact ⟨_, hserve, hlink (t.onlyLink_answer r (Reply.bare st)) (hlink (State.onlyLink_takeRequest? htake) h)⟩
  · exact hserve ▸ howner r t (hlink (State.onlyLink_takeRequest? htake) h)

theorem reaches_serveNow (hlink : ∀ {s t : State}, s.OnlyLink t → P s → P t) {k : ReqKind}
    {owner : List Byte → State → State × Reply} (howner : ∀ b t, P t → P (owner b t).1) (h : P s) :
    Reaches P (s.serveNow k owner) :=
  reaches_serve hlink (fun r t ht => reaches_next (hlink (State.onlyLink_answer _ _ _) (howner r.body t ht))) h

theorem reaches_whenRunning {f : State → State} (hf : ∀ t, P t → P (f t)) (h : P s) : Reaches P (s.whenRunning f) := by
  unfold State.whenRunning
  split
  · exact reaches_next (hf s h)
  · exact reaches_next h

theorem State.OnlyLink.sound (h : s.OnlyLink t) (hs : s.Sound) : t.Sound := by
  obtain ⟨k, rfl⟩ := h
  exact hs

theorem sound_serve {k : ReqKind} {owner : Request → State → Host.Outcome State Fault Refusal}
    (howner : ∀ r (t : State), t.Sound → Reaches State.Sound (owner r t)) (h : s.Sound) : Reaches State.Sound (s.serve k owner) :=
  reaches_serve State.OnlyLink.sound howner h

theorem sound_serveNow {k : ReqKind} {owner : List Byte → State → State × Reply}
    (howner : ∀ b (t : State), t.Sound → (owner b t).1.Sound)
    (h : s.Sound) : Reaches State.Sound (s.serveNow k owner) := reaches_serveNow State.OnlyLink.sound howner h

/-- A slot request answers RANGE and changes nothing, or acts on its slot (R22). -/
theorem sound_withSlot {b : List Byte} {f : SlotIx → State × Reply} (h : t.Sound) (hf : ∀ i, (f i).1.Sound) :
    (withSlot b t f).1.Sound := by
  unfold withSlot
  split
  · exact h
  · exact hf _

/-- An answer leaves the law. -/
theorem sound_answer (h : s.Sound) (q : Request) (rep : Reply) : Reaches State.Sound (.next (s.answer q rep)) :=
  reaches_next ((s.onlyLink_answer q rep).sound h)

/-! ## The leg store -/

theorem sound_execLegLoad (hpins : PinLaw s) (h : s.Sound) : Reaches State.Sound (execLegLoad s) := by
  have hrow : Reaches (fun t => PinLaw t ∧ t.Sound) (execLegLoad s) := by
    refine reaches_serveNow (fun hlink hs => ⟨hlink.pinLaw hs.1, hlink.sound hs.2⟩) (fun b t ht => ?_) ⟨hpins, h⟩
    obtain ⟨htpins, ht⟩ := ht
    split
    · exact ⟨htpins, ht⟩
    · next l _ =>
      split
      · exact ⟨htpins, ht⟩
      · next r hr =>
        split
        · next hfree =>
          refine ⟨(t.samePins_writeRecord _ _).pinLaw htpins, .of_law
            (Law.load ht (RawLeg.legal_of_checked? hr) fun i hi => ?_) (t.view_writeRecord l r) rfl⟩
          exact absurd (pins_pos_of_pinLaw htpins hi) (by simp [hfree])
        · exact ⟨htpins, ht⟩
  obtain ⟨t, ht, -, hsound⟩ := hrow
  exact ⟨t, ht, hsound⟩

theorem sound_execLegLink (h : s.Sound) : Reaches State.Sound (execLegLink s) := by
  refine sound_serveNow (fun b t ht => ?_) h
  split
  · exact ht
  · next l _ =>
    split
    · exact ht
    · next n _ =>
      split
      · exact ht
      · next r hr => exact .of_law (Law.link ht hr n) (t.view_writeRecord l _) rfl

/-! ## The slot table -/

theorem sound_execSlotSetup (h : s.Sound) : Reaches State.Sound (execSlotSetup s) := by
  refine sound_serveNow (fun b t ht => sound_withSlot ht fun i => ?_) h
  split
  · exact ht
  · split
    · next hrest =>
      split
      · exact ht
      · next hport => exact ht.slotSetup hrest hport
    · exact ht

theorem sound_execSlotArm (h : s.Sound) : Reaches State.Sound (execSlotArm s) := by
  refine sound_serveNow (fun b t ht => sound_withSlot ht fun i => ?_) h
  split
  · next harm => exact ht.arm harm
  · exact ht

theorem sound_execSlotStart (h : s.Sound) : Reaches State.Sound (execSlotStart s) := by
  refine sound_serveNow (fun b t ht => sound_withSlot ht fun i => ?_) h
  split
  · split
    · next hadd => exact ht.addCredits hadd
    · exact ht
  · exact ht

theorem sound_execSlotHold (h : s.Sound) : Reaches State.Sound (execSlotHold s) := by
  refine sound_serveNow (fun b t ht => sound_withSlot ht fun i => ?_) h
  split
  · next hhold => exact ht.hold? hhold
  · exact ht

/-- A resume never meets a FREE leg (R12). -/
theorem sound_execSlotResume (h : s.Sound) : Reaches State.Sound (execSlotResume s) := by
  refine sound_serve (fun r t ht => ?_) h
  split
  · exact sound_answer ht _ _
  · next i _ =>
    split
    · next hi => exact sound_answer ((ht.setLegState hi rfl (st' := .armed) rfl (by simp)).evaluate i) _ _
    · split
      · exact sound_answer (ht.holdFlag i false) _ _
      · exact sound_answer ht _ _
    · split
      · exact sound_answer (ht.holdFlag i false) _ _
      · exact sound_answer ht _ _
    · next hi =>
      rcases ht.resumeFaulted hi with ⟨u, hres, hu⟩ | hres
      · rw [hres]
        exact sound_answer hu _ _
      · rw [hres]
        exact sound_answer ht _ _
    · exact sound_answer ht _ _

theorem sound_execSlotCancel (h : s.Sound) : Reaches State.Sound (execSlotCancel s) := by
  refine sound_serve (fun r t ht => ?_) h
  split
  · exact sound_answer ht _ _
  · next i _ =>
    split
    · exact sound_answer ht _ _
    · exact reaches_next ht
    · next hactive =>
      refine sound_answer (ht.cancelAtOnce ?_) _ _
      by_contra hi
      obtain ⟨l, hl⟩ := Slot.isActive_iff.mp (by simpa using hi)
      exact hactive l hl

/-! ## The buffer, the resets and the ports -/

theorem State.Sound.startBlock (h : s.Sound) (q : Request) (o : AskOrder) : (s.startBlock q o).Sound :=
  h.congr (s.view_startBlock q o) (by simp [State.startBlock])

theorem sound_execBufWrite (h : s.Sound) (o : AskOrder) : Reaches State.Sound (execBufWrite o s) := by
  refine sound_serve (fun r t ht => ?_) h
  split
  · exact reaches_next (ht.startBlock r o)
  · exact sound_answer ht _ _

theorem sound_execBufRead (h : s.Sound) (o : AskOrder) : Reaches State.Sound (execBufRead o s) := by
  refine sound_serve (fun r t ht => ?_) h
  split
  · split
    · exact reaches_next (ht.startBlock r o)
    · exact sound_answer ht _ _
  · exact sound_answer ht _ _

/-- A host block touches no port (R146). -/
theorem State.ports_runBlock (s : State) (q : Request) : (s.runBlock q).ports = s.ports := by
  have hwrite : (s.runWriteBlock q).ports = s.ports := by
    unfold State.runWriteBlock
    split
    · rfl
    · have hwords := State.writeWords_frame (blockWords q.body) s (blockStart q.body)
      show (s.writeWords _ _).ports = s.ports
      rw [hwords]
  have hread : (s.runReadBlock q).ports = s.ports := by
    unfold State.runReadBlock
    dsimp only
    split
    · rfl
    · split <;> rfl
  unfold State.runBlock
  split
  · exact hwrite
  · exact hread

theorem sound_execHostBlockGrant (h : s.Sound) : Reaches State.Sound (execHostBlockGrant s) := by
  refine reaches_whenRunning (fun t ht => ?_) h
  split
  · split
    · exact ht.congr (t.view_runBlock _) (t.ports_runBlock _)
    · exact ht
  · exact ht

theorem sound_execFenceSet (h : s.Sound) : Reaches State.Sound (execFenceSet s) := by
  refine sound_serveNow (fun b t ht => ?_) h
  split
  · exact ht
  · split
    · exact ht
    · exact ht.congr (State.view_eq (by simp) (by simp) (by simp)) (by simp)

theorem sound_execEngineReset (h : s.Sound) : Reaches State.Sound (execEngineReset s) := by
  refine sound_serve (fun r t ht => ?_) h
  split
  · exact reaches_next ht
  · exact reaches_next (ht.engineReset r)

theorem sound_execPowerReset (h : s.Sound) : Reaches State.Sound (execPowerReset s) := by
  have hport (p : PortIx) : (State.reset).port p = Port.initial := by simp [State.reset, State.port]
  refine reaches_next (State.sound_of_view (Law.reset (port := State.reset.port) h.core (record := fun _ => none) (fun _ => .inr rfl)
    (fun p => ?_) fun p => ?_) (State.view_ext (fun i => ?_) rfl rfl fun l => ?_) rfl)
  · rw [hport]
    decide
  · rw [hport]
    exact ⟨rfl, rfl⟩
  · simp [State.slot, State.reset]
  · simp [State.leg, State.reset, LegEntry.initial]

theorem sound_execPortSetup (h : s.Sound) : Reaches State.Sound (execPortSetup s) := by
  refine sound_serveNow (fun b t ht => ?_) h
  split
  · exact ht
  · next p _ =>
    split
    · exact ht
    · split
      · next hthreshold =>
        split
        · exact ht
        · next hfree => exact (ht.setUp hfree hthreshold _ _).signal p _
      · exact ht

theorem sound_execPortQuery (h : s.Sound) : Reaches State.Sound (execPortQuery s) := by
  refine sound_serveNow (fun b t ht => ?_) h
  split
  · exact ht
  · dsimp only
    split
    · exact ht.updPort (Port.keeps_alarmsCleared _)
    · exact ht

theorem sound_execTriggerEvent (h : s.Sound) : Reaches State.Sound (execTriggerEvent s) := by
  refine reaches_whenRunning (fun t ht => ?_) h
  split
  · exact ht
  · next e rest _ =>
    have htaken : State.Sound { t with events := rest } := ht
    exact htaken.scan e

end Sys2Proof.Machine
end

section
/-! # The transfer law of a state (O59) -/

namespace Sys2Proof.Machine

variable {s t u : State} {i : SlotIx} {l : LegIx} {r : LegRecord} {x : Slot} {p : PortIx} {q : Port} {n : Nat}

/-! ## The law of the state and `TransferLaw` -/

/-- `Port.Holds` in the two clauses of `SlotStream`. -/
theorem Port.holds_iff (h : portToPort r.src r.dst = false) (hp : r.port = some p) :
    q.Holds r n ↔ (r.srcPort = some p → q.tentative = n ∧ r.burst ≤ q.fifo.length) ∧
      (r.dstPort = some p → q.staged = n ∧ q.committed + r.burst ≤ 32) := by
  rcases LegRecord.port_cases h with ⟨d, hsrc, hdst, hport, hside⟩ | ⟨d, hsrc, hdst, hport, hside⟩ | ⟨-, -, hport⟩
  · obtain rfl := Option.some.inj (hport.symm.trans hp)
    simp [Port.holds_inward hside, hsrc, hdst]
  · obtain rfl := Option.some.inj (hport.symm.trans hp)
    simp [Port.holds_outward hside, hsrc, hdst]
  · cases hport.symm.trans hp

/-- A PORT endpoint is the port of the leg. -/
theorem LegRecord.port_of_endpoint (h : portToPort r.src r.dst = false) (hp : r.srcPort = some p ∨ r.dstPort = some p) :
    r.port = some p := by
  rcases hp with hp | hp
  · exact (LegRecord.port_of_src (LegRecord.srcPort_eq_some.mp hp)).1
  · exact (LegRecord.port_of_dst h (LegRecord.dstPort_eq_some.mp hp)).1

/-- What `SlotStream` says of one leg. -/
theorem inStream_iff (h : portToPort r.src r.dst = false) :
    InStream s.port x r ↔
      bindingMatch x.setup.port r = true ∧ (x.faultRecord = none → portSuits x.setup.port r s.ports = true) ∧
        (x.InBurst → x.element < r.burst ∧
          (∀ p ∈ r.srcPort, (s.port p).tentative = x.element ∧ r.burst ≤ (s.port p).fifo.length) ∧
          (∀ p ∈ r.dstPort, (s.port p).staged = x.element ∧ (s.port p).committed + r.burst ≤ 32)) ∧
        (x.isReady = true → ∀ p ∈ x.setup.port, (s.port p).condition = true) := by
  constructor
  · rintro ⟨hbound, helement, hserves⟩
    have hholds (hin : x.InBurst) (p : PortIx) (hp : r.port = some p) :=
      (Port.holds_iff h hp).mp ((hserves p (hbound ▸ hp)).holds hin)
    exact ⟨(bindingMatch_iff h).mpr hbound, fun hf => (portSuits_iff h hbound).mpr fun p hp => (hserves p hp).suits hf,
      fun hin => ⟨helement hin, fun p hp => (hholds hin p (LegRecord.port_of_endpoint h (.inl hp))).1 hp,
        fun p hp => (hholds hin p (LegRecord.port_of_endpoint h (.inr hp))).2 hp⟩,
      fun hready p hp => (hserves p hp).ready hready⟩
  · rintro ⟨hmatch, hsuits, hburst, hready⟩
    have hbound := (bindingMatch_iff h).mp hmatch
    refine ⟨hbound, fun hin => (hburst hin).1, fun p hp => ⟨fun hf => (portSuits_iff h hbound).mp (hsuits hf) p hp, fun hin => ?_,
      fun hr => hready hr p hp⟩⟩
    obtain ⟨-, hsrc, hdst⟩ := hburst hin
    exact (Port.holds_iff h (hbound.trans hp)).mpr ⟨hsrc p, hdst p⟩

theorem slotStream_iff (h : LegLaw s) : SlotStream s x ↔ SlotOk s.view.record s.port x := by
  have hports {l : LegIx} {r : LegRecord} (hr : (s.leg l).record = some r) : portToPort r.src r.dst = false := by
    obtain ⟨-, -, -, -, -, hports, -⟩ := h l r hr
    exact hports
  exact ⟨fun hs l r hl hr => (inStream_iff (hports hr)).mpr (hs l hl r hr),
    fun hs l hl r hr => (inStream_iff (hports hr)).mp (hs l r hl hr)⟩

theorem served_eq_some : Sys2Proof.State.served s = some i ↔ ∃ snap, s.arb.mover = .busy i snap := by
  unfold Sys2Proof.State.served
  cases s.arb.mover <;> simp

/-- The arbiter's law in the parts that a view has. -/
theorem arbiterLaw_iff :
    ArbiterLaw s ↔ s.view.BurstLaw ∧ s.view.Ordered ∧ (∀ i snap, s.arb.mover = .busy i snap → (s.slot i).isActive = true) ∧
      (∀ i snap, s.arb.mover = .busy i snap → s.view.Above i) ∧
      (s.arb.mover = .idle → s.arb.stack = [] ∧ ∀ i, (s.slot i).isReady = false) := by
  constructor
  · intro h
    obtain ⟨hactive, -, -, -, hordered, habove, hidle⟩ := id h
    exact ⟨State.burstLaw_of_arbiterLaw h, hordered, fun i snap hm => (hactive i).mpr (served_eq_some.mpr ⟨snap, hm⟩),
      fun i snap hm => habove i (served_eq_some.mpr ⟨snap, hm⟩), hidle⟩
  · rintro ⟨hburst, hordered, hserved, habove, hidle⟩
    refine ⟨fun i => ⟨fun hi => served_eq_some.mpr ((hburst.places i).active hi), fun hi => ?_⟩,
      fun i => (hburst.places i).suspended, hburst.nodup, hburst.depth, hordered, fun i hi => ?_, hidle⟩
    · obtain ⟨snap, hm⟩ := served_eq_some.mp hi
      exact hserved i snap hm
    · obtain ⟨snap, hm⟩ := served_eq_some.mp hi
      exact habove i snap hm

theorem transferLaw_iff : TransferLaw s ↔ PinLaw s ∧ s.Sound := by
  constructor
  · rintro ⟨hpins, hbinding, harb, helement, hlegs, hports, hstreams, hsettled⟩
    obtain ⟨hburst, hordered, hserved, habove, hidle⟩ := arbiterLaw_iff.mp harb
    have hlegal (l : LegIx) (r : LegRecord) (hr : s.view.record l = some r) : r.Legal := by
      obtain ⟨hb, hb', hc, hc', hmark, hports, hexpect⟩ := hlegs l r hr
      exact ⟨hb, hb', hc, hc', hmark, hports, hexpect⟩
    exact ⟨hpins, {
      core := ⟨hbinding, hburst, helement, hlegal, fun i l hl => (hpins l).2 (pins_pos_of_pinLaw hpins hl)⟩
      ordered := hordered
      ports := hports
      streams := fun i => (slotStream_iff hlegs).mp (hstreams i)
      settled := hsettled
      served := hserved
      above := habove
      idle := hidle }⟩
  · rintro ⟨hpins, h⟩
    have hlegs : LegLaw s := fun l r hr => by
      obtain ⟨hb, hb', hc, hc', hmark, hports, hexpect⟩ := h.core.legal l r hr
      exact ⟨hb, hb', hc, hc', hmark, hports, hexpect⟩
    exact ⟨hpins, h.core.binding, arbiterLaw_iff.mpr ⟨h.core.burst, h.ordered, h.served, h.above, h.idle⟩, h.core.element, hlegs,
      h.ports, fun i => (slotStream_iff hlegs).mpr (h.streams i), h.settled⟩

/-! ## Every command and every step -/

/-- A request row that the transfer side does not see. -/
theorem sound_unseenRow {k : ReqKind} {owner : List Byte → State → State × Reply}
    (howner : ∀ b (t : State), (owner b t).1.view = t.view ∧ (owner b t).1.ports = t.ports) (h : s.Sound) :
    Reaches State.Sound (s.serveNow k owner) := sound_serveNow (fun b t ht => ht.congr (howner b t).1 (howner b t).2) h

/-- A row that is not a request and that the transfer side does not see. -/
theorem sound_unseen {f : State → State} (hf : ∀ t : State, (f t).view = t.view ∧ (f t).ports = t.ports) (h : s.Sound) :
    Reaches State.Sound (s.whenRunning f) := reaches_whenRunning (fun t ht => ht.congr (hf t).1 (hf t).2) h

theorem State.ports_choose (s : State) : s.choose.ports = s.ports := by
  unfold State.choose
  split
  · rfl
  · split <;> rfl

theorem sound_execUpset (h : s.Sound) (a : Upset) : Reaches State.Sound (execUpset a s) := by
  unfold execUpset
  split <;> exact reaches_next h

/-- A row of the line, which changes the link alone. -/
theorem sound_lineRow {f : State → State} (hf : ∀ t : State, t.OnlyLink (f t)) (h : s.Sound) : Reaches State.Sound (s.whenRunning f) :=
  reaches_whenRunning (fun t ht => (hf t).sound ht) h

theorem sound_execFrameReceived (h : s.Sound) (b : Byte) : Reaches State.Sound (execFrameReceived b s) :=
  sound_lineRow (fun t => by split <;> [exact t.onlyLink_deliverUnlessBreak b; exact .refl t]) h

theorem sound_execLengthError (h : s.Sound) (b : Byte) : Reaches State.Sound (execLengthError b s) :=
  sound_lineRow (fun t => by split <;> [exact t.onlyLink_deliverUnlessBreak b; exact .refl t]) h

theorem sound_execGapTimeout (h : s.Sound) : Reaches State.Sound (execGapTimeout s) :=
  sound_unseen (fun t => by split <;> exact ⟨rfl, rfl⟩) h

theorem sound_execLineBreak (h : s.Sound) : Reaches State.Sound (execLineBreak s) :=
  sound_unseen (fun t => by split <;> exact ⟨rfl, rfl⟩) h

theorem sound_execTransmitReply (h : s.Sound) : Reaches State.Sound (execTransmitReply s) :=
  sound_unseen (fun t => by split <;> exact ⟨rfl, rfl⟩) h

theorem sound_execTransmitReport (h : s.Sound) : Reaches State.Sound (execTransmitReport s) :=
  sound_unseen (fun t => by split <;> exact ⟨rfl, rfl⟩) h

theorem sound_execFrameSent (h : s.Sound) : Reaches State.Sound (execFrameSent s) :=
  sound_unseen (fun t => by split <;> [exact ⟨State.view_choose _, State.ports_choose _⟩; exact ⟨rfl, rfl⟩]) h

theorem sound_execHello (h : s.Sound) : Reaches State.Sound (execHello s) :=
  sound_unseenRow (fun _ _ => ⟨rfl, rfl⟩) h

theorem sound_execLinkStatus (h : s.Sound) : Reaches State.Sound (execLinkStatus s) :=
  sound_unseenRow (fun b t => by dsimp only; split <;> exact ⟨rfl, rfl⟩) h

theorem sound_execSlotQuery (h : s.Sound) : Reaches State.Sound (execSlotQuery s) :=
  sound_unseenRow (fun b t => by unfold withSlot; split <;> exact ⟨rfl, rfl⟩) h

theorem sound_execTrigSet (h : s.Sound) : Reaches State.Sound (execTrigSet s) :=
  sound_unseenRow (fun b t => by split <;> [exact ⟨rfl, rfl⟩; (split <;> exact ⟨rfl, rfl⟩)]) h

theorem sound_execReportGate (h : s.Sound) : Reaches State.Sound (execReportGate s) :=
  sound_unseenRow (fun _ _ => ⟨rfl, rfl⟩) h

theorem sound_execFenceRead (h : s.Sound) : Reaches State.Sound (execFenceRead s) :=
  sound_unseenRow (fun b t => by split <;> exact ⟨rfl, rfl⟩) h

theorem sound_execLegRead (h : s.Sound) : Reaches State.Sound (execLegRead s) :=
  sound_unseenRow (fun b t => by split <;> exact ⟨rfl, rfl⟩) h

theorem sound_execTrigRead (h : s.Sound) : Reaches State.Sound (execTrigRead s) :=
  sound_unseenRow (fun b t => by split <;> exact ⟨rfl, rfl⟩) h

theorem sound_execReportAck (h : s.Sound) : Reaches State.Sound (execReportAck s) :=
  sound_unseenRow (fun b t => by split <;> exact ⟨rfl, rfl⟩) h

theorem sound_execReportReplay (h : s.Sound) : Reaches State.Sound (execReportReplay s) :=
  sound_unseenRow (fun b t => by split <;> exact ⟨rfl, rfl⟩) h

theorem exec_sound (hpins : PinLaw s) (h : s.Sound) (c : Instr) : Reaches State.Sound (exec c s) := by
  cases c with
  | powerReset => exact sound_execPowerReset h
  | resetRelease straps => exact reaches_next (by split <;> exact h)
  | startUpEnd => exact reaches_next (by split <;> exact h)
  | upset x => exact sound_execUpset h x
  | frameReceived b => exact sound_execFrameReceived h b
  | lengthError b => exact sound_execLengthError h b
  | byteDelivered b => exact sound_lineRow (fun t => t.onlyLink_deliverUnlessBreak b) h
  | gapTimeout => exact sound_execGapTimeout h
  | lineBreak => exact sound_execLineBreak h
  | lineHighAfterBreak => exact sound_lineRow (fun t => t.onlyLink_updLink _) h
  | transmitReply => exact sound_execTransmitReply h
  | transmitReport => exact sound_execTransmitReport h
  | frameSent => exact sound_execFrameSent h
  | hello => exact sound_execHello h
  | linkStatus => exact sound_execLinkStatus h
  | engineReset => exact sound_execEngineReset h
  | bufWrite o => exact sound_execBufWrite h o
  | bufRead o => exact sound_execBufRead h o
  | hostBlockGrant => exact sound_execHostBlockGrant h
  | fenceSet => exact sound_execFenceSet h
  | fenceRead => exact sound_execFenceRead h
  | legLoad => exact sound_execLegLoad hpins h
  | legRead => exact sound_execLegRead h
  | legLink => exact sound_execLegLink h
  | slotSetup => exact sound_execSlotSetup h
  | slotArm => exact sound_execSlotArm h
  | slotStart => exact sound_execSlotStart h
  | slotHold => exact sound_execSlotHold h
  | slotResume => exact sound_execSlotResume h
  | slotCancel => exact sound_execSlotCancel h
  | slotQuery => exact sound_execSlotQuery h
  | trigSet => exact sound_execTrigSet h
  | trigRead => exact sound_execTrigRead h
  | triggerEvent => exact sound_execTriggerEvent h
  | portSetup => exact sound_execPortSetup h
  | portQuery => exact sound_execPortQuery h
  | wordArrival p w => exact reaches_whenRunning (f := fun t => t.arrive p w) (fun t ht => ht.arrive p w) h
  | wordTake p => exact reaches_whenRunning (f := fun t => t.takeWord p) (fun t ht => ht.takeWord p) h
  | reportAck => exact sound_execReportAck h
  | reportReplay => exact sound_execReportReplay h
  | reportGate => exact sound_execReportGate h
  | element order => exact h.element order
  | paceExpiry i => exact reaches_whenRunning (f := fun t => t.paceExpires i) (fun t ht => ht.paceExpires i) h

theorem exec_transferLaw (h : TransferLaw s) (c : Instr) : Reaches TransferLaw (exec c s) := by
  obtain ⟨hpins, hsound⟩ := transferLaw_iff.mp h
  obtain ⟨t, ht, htsound⟩ := exec_sound hpins hsound c
  exact ⟨t, ht, transferLaw_iff.mpr ⟨pinLaw_exec hpins ht, htsound⟩⟩

theorem step_transferLaw (h : TransferLaw s) : Reaches TransferLaw (step s) := by
  unfold step
  split
  · obtain ⟨hpins, hsound⟩ := transferLaw_iff.mp h
    exact reaches_next (transferLaw_iff.mpr ⟨s.samePins_tick.pinLaw hpins, hsound.tick⟩)
  · next c rest _ =>
    have hqueue : TransferLaw { s with pending := rest } := h
    exact exec_transferLaw hqueue c

end Sys2Proof.Machine

namespace Sys2Proof

open Machine

/-- Settles O59: the law reads as `PinLaw` and `State.Sound`, and every command goes on to a state with both. -/
theorem transferLawKeptAndNothingStops : Obligations.TransferLawKeptAndNothingStops := by
  refine ⟨fun c s h => ?_, fun s t h hstep => ?_, fun s k h => ?_⟩
  · obtain ⟨t, ht, -⟩ := exec_transferLaw h c
    exact ⟨t, ht⟩
  · obtain ⟨u, hu, hlaw⟩ := step_transferLaw h
    cases hu.symm.trans hstep
    exact hlaw
  · induction k generalizing s with
    | zero => rfl
    | succ k ih =>
      obtain ⟨t, ht, hlaw⟩ := step_transferLaw h
      have hstep : core.step s = .next t := ht
      have hrun : core.run (k + 1) s = core.run k t := by simp only [Host.Core.run, hstep]
      exact (congrArg goesOn hrun).trans (ih t hlaw)

end Sys2Proof
end

section
/-! # The law of the arbiter over a view (O57)

`View.Arbitrated` is the arbiter's law of what a state shows: `State.arbitrated_iff`. `View.Lined` is its part that does not ask what an
idle mover leaves; it also holds between the two halves of a suspension, of a grant at an idle mover, and of a release. -/

namespace Sys2Proof.Machine

variable {v w : View} {i j : SlotIx} {l : LegIx} {y : Slot} {snap : Snapshot} {m : Mover} {stack : List Suspended}

/-- The slots of the bursts in flight, in the order the mover comes to them: the one it serves, then the stack from its top (R72, R81). -/
def View.line (v : View) : List SlotIx :=
  match v.mover with
  | .busy i _ => i :: v.stack.map (·.slot)
  | _ => v.stack.map (·.slot)

theorem View.line_of_busy (h : v.mover = .busy i snap) : v.line = i :: v.stack.map (·.slot) := by simp [View.line, h]

theorem View.line_of_free (h : v.Free) : v.line = v.stack.map (·.slot) := by
  unfold View.line
  split
  · next hmover => exact absurd hmover (h _ _)
  · rfl

theorem View.mem_line : j ∈ v.line ↔ (∃ snap, v.mover = .busy j snap) ∨ j ∈ v.stack.map (·.slot) := by
  unfold View.line
  split
  · next hmover => simp [hmover, eq_comm]
  · next hfree => exact (or_iff_right fun ⟨snap, hmover⟩ => hfree j snap hmover).symm

/-- Entries that leave the stack leave the line. -/
theorem View.line_sublist (v : View) (h : stack.Sublist v.stack) : (View.line { v with stack := stack }).Sublist v.line := by
  unfold View.line
  cases v.mover with
  | busy => exact (h.map _).cons_cons _
  | idle | releasing => exact h.map _

/-- PRIORITY falls strictly along the line (R77). -/
def View.Ranked (v : View) : Prop := v.line.Pairwise fun i j => (v.slots j).setup.priority < (v.slots i).setup.priority

theorem View.ranked_iff : v.Ranked ↔ v.Ordered ∧ ∀ i snap, v.mover = .busy i snap → v.Above i := by
  unfold View.Ranked View.line View.Ordered
  split
  · next hmover => simp [View.Above, hmover, List.pairwise_map, and_comm]
  · next hfree =>
    rw [and_iff_left fun i snap hmover => (hfree i snap hmover).elim]
    simp only [List.pairwise_map, gt_iff_lt]

/-- The ranking stays where the line loses slots alone and the slots left on it keep their setup. -/
theorem View.Ranked.of_sublist (h : v.Ranked) (hline : w.line.Sublist v.line)
    (hsetup : ∀ j ∈ w.line, (w.slots j).setup = (v.slots j).setup) : w.Ranked :=
  (h.sublist hline).imp_of_mem fun hi hj hlt => by rwa [hsetup _ hi, hsetup _ hj]

/-- The bursts in flight are those of the line, and PRIORITY falls along it. -/
structure View.Lined (v : View) : Prop where
  burst : v.BurstLaw
  served : ∀ i snap, v.mover = .busy i snap → (v.slots i).isActive = true
  ranked : v.Ranked

/-- The law of the arbiter: and an idle mover leaves the stack and the ready set empty (R76). -/
structure View.Arbitrated (v : View) : Prop extends View.Lined v where
  idle : v.mover = .idle → v.stack = [] ∧ ∀ i, (v.slots i).isReady = false

theorem View.Lined.inBurst_of_mem_line (h : v.Lined) (hj : j ∈ v.line) : (v.slots j).InBurst := by
  rcases View.mem_line.mp hj with ⟨snap, hmover⟩ | hmem
  · exact .inl (h.served j snap hmover)
  · exact .inr ((h.burst.places j).suspended.mpr hmem)

/-- With the mover busy or at its release an idle one is not in question. -/
theorem View.Lined.arbitrated (h : v.Lined) (hmover : v.mover ≠ .idle) : v.Arbitrated := ⟨h, fun hidle => absurd hidle hmover⟩

/-! ## One slot changes -/

/-- The slot the mover serves is ACTIVE still. -/
theorem View.Lined.served_set (h : v.Lined) (hactive : (v.slots i).isActive = true → y.isActive = true) (j : SlotIx) (snap : Snapshot)
    (hmover : v.mover = .busy j snap) : ((v.set i y).slots j).isActive = true := by
  have hj := h.served j snap hmover
  by_cases hji : j = i
  · subst hji
    rw [View.set_slots_same]
    exact hactive hj
  · rwa [View.set_slots_ne hji]

/-- One slot changes, and the line loses slots or stays: what a burst in flight has as its setup does not change. -/
theorem View.Lined.set (h : v.Lined) (hburst : View.BurstLaw { v.set i y with stack := stack, mover := m })
    (hserved : ∀ j snap, m = .busy j snap → ((v.set i y).slots j).isActive = true)
    (hline : (View.line { v.set i y with stack := stack, mover := m }).Sublist v.line)
    (hsetup : (v.slots i).InBurst → y.setup = (v.slots i).setup) : View.Lined { v.set i y with stack := stack, mover := m } where
  burst := hburst
  served := hserved
  ranked := h.ranked.of_sublist hline fun j hj => by
    show ((v.set i y).slots j).setup = (v.slots j).setup
    by_cases hji : j = i
    · subst hji
      rw [View.set_slots_same]
      exact hsetup (h.inBurst_of_mem_line (hline.subset hj))
    · rw [View.set_slots_ne hji]

/-- A slot stays in its burst, or outside one, and becomes READY only while the mover is not idle. -/
theorem View.Arbitrated.set (h : v.Arbitrated) (hactive : y.isActive = (v.slots i).isActive)
    (hsuspended : y.isSuspended = (v.slots i).isSuspended) (hsetup : (v.slots i).InBurst → y.setup = (v.slots i).setup)
    (hready : y.isReady = true → v.mover ≠ .idle) : (v.set i y).Arbitrated where
  toLined := h.toLined.set (h.burst.set hactive hsuspended) (h.served_set fun hi => hactive.trans hi) (.refl _) hsetup
  idle hidle := by
    refine ⟨(h.idle hidle).1, View.forall_set (P := fun _ x => x.isReady = false) (fun j _ => (h.idle hidle).2 j) ?_⟩
    by_contra hy
    exact hready (by simpa using hy) hidle

theorem View.Arbitrated.set_outside (h : v.Arbitrated) (hx : (v.slots i).OutsideBurst) (hy : y.OutsideBurst)
    (hready : y.isReady = true → v.mover ≠ .idle) : (v.set i y).Arbitrated :=
  h.set (hy.1.trans hx.1.symm) (hy.2.trans hx.2.symm) (fun hi => absurd hi hx.not_inBurst) hready

/-- A slot changes neither its state nor its setup. -/
theorem View.Arbitrated.set_context (h : v.Arbitrated) (hstanding : y.standing = (v.slots i).standing)
    (hsetup : y.setup = (v.slots i).setup) : (v.set i y).Arbitrated :=
  h.set (by simp only [Slot.isActive, hstanding]) (by simp only [Slot.isSuspended, hstanding]) (fun _ => hsetup) fun hready hidle => by
    have hsame : (v.slots i).isReady = true := by simpa only [Slot.isReady, hstanding] using hready
    rw [(h.idle hidle).2 i] at hsame
    cases hsame

/-- The ACTIVE slot leaves its burst, and the mover stands at its release (R59, R92, R45). -/
theorem View.Arbitrated.release (h : v.Arbitrated) (hi : (v.slots i).standing = .inLeg l .active) (hmover : v.mover = .busy i snap)
    (hy : y.OutsideBurst) (c n : Nat) : View.Arbitrated { v.set i y with mover := .releasing c n } := by
  have hfree : View.Free { v.set i y with mover := .releasing c n } := by simp [View.Free]
  have hline : (View.line { v.set i y with mover := .releasing c n }).Sublist v.line := by
    rw [View.line_of_free hfree, View.line_of_busy hmover]
    exact List.sublist_cons_self _ _
  refine View.Lined.arbitrated ⟨h.burst.set_released hmover hi hy _, fun _ _ hm => Mover.noConfusion hm,
    h.ranked.of_sublist hline fun j hj => ?_⟩ Mover.noConfusion
  have hmem : j ∈ v.stack.map (·.slot) := by rwa [View.line_of_free hfree] at hj
  have hne : j ≠ i := by
    rintro rfl
    exact h.burst.not_mem (Slot.isSuspended_of_active hi) hmem
  exact congrArg Slot.setup (View.set_slots_ne hne)

/-- A SUSPENDED slot leaves the stack wherever it stands (R85). -/
theorem View.Arbitrated.unstack (h : v.Arbitrated) (hi : (v.slots i).isSuspended = true) (hy : y.OutsideBurst)
    (hsetup : y.setup = (v.slots i).setup) (hready : y.isReady = false) :
    View.Arbitrated { v.set i y with stack := v.stack.filter fun e => decide (e.slot ≠ i) } where
  toLined := h.toLined.set (h.burst.cancelSuspended hy)
    (h.served_set fun hactive => by
      obtain ⟨l, hl⟩ := Slot.isSuspended_iff.mp hi
      simp [Slot.isActive, hl] at hactive)
    (v.line_sublist List.filter_sublist) fun _ => hsetup
  idle hidle := ⟨List.filter_eq_nil_iff.mpr fun e he => by simp [(h.idle hidle).1] at he,
    View.forall_set (P := fun _ x => x.isReady = false) (fun j _ => (h.idle hidle).2 j) hready⟩

/-! ## Grant, suspension, pop -/

/-- A READY slot above the stack joins the line in front, while the mover serves no slot (R75, R82). -/
theorem View.Lined.grant (h : v.Lined) (hfree : v.Free) (hi : (v.slots i).standing = .inLeg l .ready) (habove : v.Above i) :
    View.Arbitrated { v.set i ((v.slots i).burstStart l).1 with mover := .busy i ((v.slots i).burstStart l).2 } := by
  have hsame := View.set_slots_same v i ((v.slots i).burstStart l).1
  have hsetup (j : SlotIx) : ((v.set i ((v.slots i).burstStart l).1).slots j).setup = (v.slots j).setup := by
    by_cases hj : j = i
    · rw [hj, hsame, Slot.burstStart_setup]
    · rw [View.set_slots_ne hj]
  refine View.Lined.arbitrated ⟨h.burst.grant hi hfree, fun j snap hm => ?_, ?_⟩ Mover.noConfusion
  · obtain ⟨rfl, -⟩ := Mover.busy.inj hm
    exact (congrArg Slot.isActive hsame).trans (Slot.isActive_of_standing (Slot.burstStart_standing _ l))
  · have hordered := (View.ranked_iff.mp h.ranked).1
    refine View.ranked_iff.mpr ⟨by simpa [View.Ordered, hsetup] using hordered, fun j snap hm => ?_⟩
    obtain ⟨rfl, -⟩ := Mover.busy.inj hm
    intro e he
    show ((v.set i _).slots e.slot).setup.priority < ((v.set i _).slots i).setup.priority
    rw [hsetup, hsetup]
    exact habove e he

/-- A suspension leaves the line as it is: the slot the mover served is the stack's top (R79). -/
theorem View.Lined.suspend (h : v.Lined) (hi : (v.slots i).standing = .inLeg l .active) (hmover : v.mover = .busy i snap)
    (hdepth : v.stack.length < 3) :
    View.Lined
      { v.set i { v.slots i with standing := .inLeg l .suspended } with
        stack := { slot := i, snapshot := snap } :: v.stack, mover := .idle } :=
  h.set (h.burst.suspend hi hmover hdepth) (fun _ _ hm => Mover.noConfusion hm)
    (by rw [View.line_of_busy hmover, View.line_of_free (by simp [View.Free])]; exact .refl _) fun _ => rfl

/-- A pop leaves the line as it is: the mover serves the slot that was the stack's top (R83). -/
theorem View.Lined.pop (h : v.Lined) {top : Suspended} {rest : List Suspended} (hstack : v.stack = top :: rest) (hfree : v.Free) :
    View.Arbitrated
      { v.set top.slot { v.slots top.slot with standing := .inLeg l .active } with
        stack := rest, mover := .busy top.slot top.snapshot } := by
  refine View.Lined.arbitrated (h.set (h.burst.pop hstack hfree) (fun j snap hm => ?_) ?_ fun _ => rfl) Mover.noConfusion
  · obtain ⟨rfl, -⟩ := Mover.busy.inj hm
    rw [View.set_slots_same]
    exact Slot.isActive_of_standing rfl
  · rw [View.line_of_busy rfl, View.line_of_free hfree, hstack]
    exact .refl _

/-- The mover passes from one state in which it serves no slot to another. -/
theorem View.Lined.set_mover (h : v.Lined) (hfree : v.Free) (hm : ∀ i snap, m ≠ .busy i snap) : View.Lined { v with mover := m } where
  burst := h.burst.move (.mover m hfree hm)
  served i snap hmover := absurd hmover (hm i snap)
  ranked := h.ranked.of_sublist
    (by rw [View.line_of_free hfree, View.line_of_free (v := { v with mover := m }) hm]) fun _ _ => rfl

/-! ## The leg store, time, and the resets -/

/-- The leg records are not the arbiter's. -/
theorem View.Arbitrated.set_record (h : v.Arbitrated) (record : LegIx → Option LegRecord) :
    View.Arbitrated { v with record := record } :=
  ⟨⟨⟨h.burst.places, h.burst.nodup, h.burst.depth⟩, h.served, h.ranked⟩, h.idle⟩

theorem View.Arbitrated.tick (h : v.Arbitrated) : View.Arbitrated { v with slots := fun i => (v.slots i).tick } where
  burst := h.burst.move .tick
  served i snap hmover := (Slot.isActive_tick _).trans (h.served i snap hmover)
  ranked := h.ranked.of_sublist (.refl _) fun _ _ => Slot.setup_tick _
  idle hidle := ⟨(h.idle hidle).1, fun i => (Slot.isReady_tick _).trans ((h.idle hidle).2 i)⟩

/-- Either reset leaves every slot IDLE (R193, R195). -/
theorem View.arbitrated_reset (record : LegIx → Option LegRecord) :
    View.Arbitrated { slots := fun _ => Slot.initial, stack := [], mover := .idle, record := record } where
  burst := ⟨fun _ => Slot.OutsideBurst.inPlace ⟨rfl, rfl⟩ _ (by simp), by simp, by simp⟩
  served _ _ hm := Mover.noConfusion hm
  ranked := .nil
  idle _ := ⟨rfl, fun _ => rfl⟩

end Sys2Proof.Machine
end

section
/-! # The law of the arbiter through the operations of the transfer side (O57)

One lemma for each operation, in the order of the definitions. A slot that ends a burst or a run, or that stands between two, may be given
any state outside a burst but READY: `State.ArbitratedBut`. -/

namespace Sys2Proof.Machine

variable {v : View} {s t u : State} {i j : SlotIx} {l n : LegIx} {y : Slot} {st : LegState} {snap : Snapshot}

/-- The law of the arbiter of a state: `State.arbitrated_iff`. -/
def State.Arbitrated (s : State) : Prop := s.view.Arbitrated

theorem State.Arbitrated.of_view (h : v.Arbitrated) (hview : t.view = v) : t.Arbitrated := by
  rw [State.Arbitrated, hview]
  exact h

theorem State.Arbitrated.congr (h : s.Arbitrated) (hview : t.view = s.view) : t.Arbitrated := .of_view h hview

theorem State.arbitrated_iff : ArbiterLaw s ↔ s.Arbitrated := by
  rw [arbiterLaw_iff]
  constructor
  · rintro ⟨hburst, hordered, hserved, habove, hidle⟩
    exact ⟨⟨hburst, hserved, View.ranked_iff.mpr ⟨hordered, habove⟩⟩, hidle⟩
  · rintro ⟨⟨hburst, hserved, hranked⟩, hidle⟩
    obtain ⟨hordered, habove⟩ := View.ranked_iff.mp hranked
    exact ⟨hburst, hordered, hserved, habove, hidle⟩

/-! ## The arbiter -/

/-- A grant of a READY slot above the stack (R75, R82). -/
theorem State.arbitrated_grant (h : s.view.Lined) (hfree : s.view.Free) (hi : (s.slot i).standing = .inLeg l .ready)
    (habove : s.view.Above i) : (s.grant i).Arbitrated := .of_view (h.grant hfree hi habove) (State.view_grant hi)

theorem State.arbitrated_pop {top : Suspended} {rest : List Suspended} (h : s.view.Lined) (hfree : s.view.Free)
    (hstack : s.arb.stack = top :: rest) : (s.pop top rest).Arbitrated := by
  obtain ⟨l, hi⟩ := Slot.isSuspended_iff.mp (h.burst.suspended_of_mem (hstack ▸ List.mem_cons_self))
  have hi : (s.slot top.slot).standing = .inLeg l .suspended := hi
  refine .of_view (h.pop (l := l) hstack hfree) ?_
  simp only [State.pop, hi]
  simp

/-- What stands above the top of the stack stands above the stack (R77). -/
theorem View.Lined.above_of_top (h : v.Lined) {top : Suspended} {rest : List Suspended} (hstack : v.stack = top :: rest)
    (htop : (v.slots top.slot).setup.priority < (v.slots i).setup.priority) : v.Above i := by
  intro e he
  have hordered := (View.ranked_iff.mp h.ranked).1
  simp only [View.Ordered, hstack, List.map_cons, List.pairwise_cons, List.mem_map, forall_exists_index, and_imp,
    forall_apply_eq_imp_iff₂] at hordered
  rcases List.mem_cons.mp (hstack ▸ he) with rfl | he
  · exact htop
  · exact (hordered.1 e he).trans htop

/-- The selection at a release (R81, R82). -/
theorem State.arbitrated_select (h : s.view.Lined) (hfree : s.view.Free) : s.select.Arbitrated := by
  have hidle : (s.setMover .idle).view.Lined := h.set_mover hfree (by simp)
  unfold State.select
  split
  · next hstack hbest => exact ⟨hidle, fun _ => ⟨hstack, State.not_ready_of_bestReady_none hbest⟩⟩
  · next q hstack hbest =>
    obtain ⟨l, hl⟩ := State.bestReady_standing hbest
    exact State.arbitrated_grant (s := s.setMover .idle) hidle (by simp [View.Free]) hl fun e he => absurd he (by simp [hstack])
  · next hstack _ => exact State.arbitrated_pop h hfree hstack
  · next top rest q hstack hbest =>
    split
    · next habove =>
      obtain ⟨l, hl⟩ := State.bestReady_standing hbest
      exact State.arbitrated_grant h hfree hl (h.above_of_top hstack habove.1)
    · exact State.arbitrated_pop h hfree hstack

/-- An evaluation makes its slot READY, and grants it where the mover is idle and so the stack is empty (R37, R76). -/
theorem State.Arbitrated.evaluate (h : s.Arbitrated) (i : SlotIx) : (s.evaluate i).Arbitrated := by
  by_cases harmed : ∃ l, (s.slot i).standing = .inLeg l .armed
  · obtain ⟨l, hi⟩ := harmed
    have hout : (s.slot i).OutsideBurst := Slot.outsideBurst_of_betweenBursts (st := .armed) rfl hi
    have hout' : Slot.OutsideBurst { s.slot i with standing := .inLeg l .ready } :=
      Slot.outsideBurst_of_betweenBursts (st := .ready) rfl rfl
    by_cases hgrounds : (s.slot i).grounds s.ports = true
    · by_cases hmover : s.arb.mover = .idle
      · rw [State.evaluate_of_idle hi hgrounds hmover]
        have hlined : (s.setLegState i l .ready).view.Lined := by
          rw [State.view_setLegState]
          exact h.toLined.set (h.burst.set_outside hout hout')
            (fun j snap hm => absurd (hmover.symm.trans hm) Mover.noConfusion) (.refl _) fun _ => rfl
        refine State.arbitrated_grant (s := s.setLegState i l .ready) (l := l) hlined (by simp [View.Free, hmover])
          (by simp [State.slot_setLegState]) fun e he => ?_
        have hstack : s.arb.stack = [] := (h.idle hmover).1
        exact absurd he (by simp [hstack])
      · rw [State.evaluate_of_not_idle hi hgrounds hmover]
        exact .of_view (h.set_outside hout hout' fun _ => hmover) (State.view_setLegState ..)
    · rwa [State.evaluate_of_not_grounds hi hgrounds]
  · rwa [State.evaluate_of_not_armed (not_exists.mp harmed)]

theorem State.Arbitrated.signal (h : s.Arbitrated) (p : PortIx) (was : Bool) : (s.signal p was).Arbitrated := by
  unfold State.signal
  split
  · split
    · exact h.evaluate _
    · exact h
  · exact h

/-- A preemption suspends the ACTIVE slot and grants one above it (R78, R79). -/
theorem State.Arbitrated.preemptionCheck (h : s.Arbitrated) (hi : (s.slot i).standing = .inLeg l .active)
    (hmover : s.arb.mover = .busy i snap) : (s.preemptionCheck i l snap).Arbitrated := by
  have hbegins : s.elementBegins.Arbitrated := h.congr s.view_elementBegins
  unfold State.preemptionCheck
  split
  · next q hbest =>
    split
    · next hpreempts =>
      obtain ⟨hhigher, -, -, hdepth⟩ := hpreempts
      obtain ⟨lq, hq⟩ := State.bestReady_standing hbest
      have hne : i ≠ q := by
        rintro rfl
        simp [hi] at hq
      let pushed := (s.setLegState i l .suspended).setStack ({ slot := i, snapshot := snap } :: s.arb.stack)
      have hready : (pushed.slot q).standing = .inLeg lq .ready := by
        simpa [pushed, State.slot_setLegState, hne] using hq
      have hlined : (pushed.setMover .idle).view.Lined := by
        have hview : (pushed.setMover .idle).view =
            { s.view.set i { s.slot i with standing := .inLeg l .suspended } with
              stack := { slot := i, snapshot := snap } :: s.view.stack, mover := .idle } := by
          simp [pushed]
        rw [hview]
        exact h.toLined.suspend hi hmover hdepth
      have htop : (pushed.slot i).setup.priority < (pushed.slot q).setup.priority := by
        simpa [pushed, State.slot_setLegState, hne] using hhigher
      rw [← State.grant_setMover pushed .idle hready]
      exact State.arbitrated_grant hlined (by simp [View.Free]) hready
        (hlined.above_of_top (top := { slot := i, snapshot := snap }) rfl htop)
    · exact hbegins
  · exact hbegins

/-! ## A slot that is in no burst -/

/-- The law holds whatever state outside a burst, but READY, slot i is given. -/
def State.ArbitratedBut (s : State) (i : SlotIx) : Prop := ∀ y : Slot, y.OutsideBurst → y.isReady = false → (s.view.set i y).Arbitrated

theorem State.Arbitrated.but (h : s.Arbitrated) (hi : (s.slot i).OutsideBurst) : s.ArbitratedBut i := fun _ hy hready =>
  h.set_outside hi hy fun hr => by simp [hready] at hr

theorem State.Arbitrated.but_of_standing (h : s.Arbitrated) (hi : (s.slot i).standing = .inLeg l st) (hst : st.betweenBursts = true) :
    s.ArbitratedBut i := h.but (Slot.outsideBurst_of_betweenBursts hst hi)

/-- The slot the mover served, once the mover stands at its release. -/
theorem State.Arbitrated.but_of_released (h : s.Arbitrated) (hi : (s.slot i).standing = .inLeg l .active)
    (hmover : s.arb.mover = .busy i snap) {c k : Nat} (hview : t.view = { s.view.set i y with mover := .releasing c k }) :
    t.ArbitratedBut i := fun z hz _ => by
  have hset : t.view.set i z = { s.view.set i z with mover := .releasing c k } := by
    rw [hview]
    simp only [View.set, Function.update_idem]
  rw [hset]
  exact h.release hi hmover hz c k

theorem State.ArbitratedBut.congr (h : s.ArbitratedBut i) (hview : t.view = s.view.set i y) : t.ArbitratedBut i := fun z hz hready => by
  rw [hview, View.set_set]
  exact h z hz hready

theorem State.ArbitratedBut.of_view (h : s.ArbitratedBut i) (hview : t.view = s.view) : t.ArbitratedBut i := fun z hz hready => by
  rw [hview]
  exact h z hz hready

/-- The slot's next state is written. -/
theorem State.ArbitratedBut.write (h : s.ArbitratedBut i) (hview : t.view = s.view.set i y) (hy : y.OutsideBurst)
    (hready : y.isReady = false) : t.Arbitrated := .of_view (h y hy hready) hview

theorem State.ArbitratedBut.write_leg (h : s.ArbitratedBut i) (hview : t.view = s.view.set i y) (hy : y.standing = .inLeg l st)
    (hst : st.betweenBursts = true) (hready : st ≠ .ready) : t.Arbitrated := by
  refine h.write hview (Slot.outsideBurst_of_betweenBursts hst hy) ?_
  by_contra hr
  obtain ⟨k, hk⟩ := Slot.isReady_iff.mp (by simpa using hr)
  rw [hy] at hk
  exact hready (Standing.inLeg.inj hk).2

theorem State.ArbitratedBut.setLegState (h : s.ArbitratedBut i) (l : LegIx) (hst : st.betweenBursts = true) (hready : st ≠ .ready) :
    (s.setLegState i l st).Arbitrated := h.write_leg (s.view_setLegState i l st) rfl hst hready

/-- The slot is ARMED, and eligibility is evaluated (R38, R39, R43, R100). -/
theorem State.ArbitratedBut.rearm (h : s.ArbitratedBut i) (l : LegIx) : ((s.setLegState i l .armed).evaluate i).Arbitrated :=
  (h.setLegState l (st := .armed) rfl (by simp)).evaluate i

theorem State.ArbitratedBut.enterFaulted (h : s.ArbitratedBut i) (l : LegIx) (c : FaultCause) (e : Nat) :
    (s.enterFaulted i l c e).Arbitrated := h.write (s.view_enterFaulted i l c e) (Slot.outsideBurst_of_faulted rfl) rfl

theorem State.ArbitratedBut.cancelled (h : s.ArbitratedBut i) (hview : t.view = s.view.set i y.cancelled) : t.Arbitrated :=
  h.write hview (Slot.outsideBurst_cancelled y) rfl

/-! ## Claims on a slot -/

theorem State.Arbitrated.holdFlag (h : s.Arbitrated) (i : SlotIx) (hold : Bool) :
    (s.updSlot i fun x => { x with holdRequested := hold }).Arbitrated :=
  .of_view (h.set_context (y := { s.slot i with holdRequested := hold }) rfl rfl) (State.view_updSlot ..)

theorem State.Arbitrated.hold? (h : s.Arbitrated) (ht : s.hold? i = some t) : t.Arbitrated := by
  have hheld {l : LegIx} {st : LegState} (hi : (s.slot i).standing = .inLeg l st) (hst : st.betweenBursts = true) :
      (s.setLegState i l .held).Arbitrated := (h.but_of_standing hi hst).setLegState l rfl (by simp)
  unfold State.hold? at ht
  split at ht <;> simp only [Option.some.injEq, reduceCtorEq] at ht <;> subst ht
  · next hi => exact hheld hi rfl
  · next hi => exact hheld hi rfl
  · next hi => exact hheld hi rfl
  · exact h.holdFlag i true
  · exact h.holdFlag i true
  · exact h

theorem State.Arbitrated.addCredits {k : Nat} (h : s.Arbitrated) (ht : s.addCredits i k = .ok t) : t.Arbitrated := by
  have hgiven : (s.updSlot i fun x => { x with credits := x.credits + k }).Arbitrated :=
    .of_view (h.set_context (y := { s.slot i with credits := (s.slot i).credits + k }) rfl rfl) (State.view_updSlot ..)
  simp only [State.addCredits] at ht
  split_ifs at ht
  cases ht
  exact hgiven.evaluate i

/-- An arm enters FIRST-LEG from IDLE or DONE (R32). -/
theorem State.Arbitrated.arm (h : s.Arbitrated) (ht : s.arm i = .ok t) : t.Arbitrated := by
  unfold State.arm at ht
  split at ht
  · next hrest =>
    split at ht
    · cases ht
    · next l _ =>
      split_ifs at ht
      split at ht
      · next r _ =>
        cases ht
        refine State.Arbitrated.evaluate ?_ i
        exact (h.but (Slot.outsideBurst_of_atRest hrest)).write_leg (l := l) (st := .armed)
          (y := { (s.slot i).entered l r .armed with credits := 0, holdRequested := false }) (by simp) rfl rfl (by simp)
      · cases ht
  · cases ht

/-! ## Leg ends and commits -/

theorem State.ArbitratedBut.becomeHeld (h : s.ArbitratedBut i) (l : LegIx) : (s.becomeHeld i l).Arbitrated :=
  h.write_leg (s.view_becomeHeld i l) (st := .held) rfl rfl (by simp)

theorem State.ArbitratedBut.goOn (h : s.ArbitratedBut i) (l : LegIx) (atCommit : Bool) : (s.goOn i l atCommit).Arbitrated := by
  unfold State.goOn
  split
  · exact h.setLegState l (st := .paced _) rfl (by simp)
  · exact h.rearm l

theorem State.ArbitratedBut.chainEnds (h : s.ArbitratedBut i) (l : LegIx) : (s.chainEnds i l).Arbitrated :=
  h.write (y := { s.slot i with standing := .done, credits := 0, legRun := false, holdRequested := false })
    (by simp [State.chainEnds]) ⟨rfl, rfl⟩ rfl

theorem State.ArbitratedBut.entersNext (h : s.ArbitratedBut i) (l : LegIx) (r : LegRecord) (n : LegIx) (rn : LegRecord)
    (atCommit : Bool) : (s.entersNext i l r n rn atCommit).Arbitrated := by
  have hentered : State.ArbitratedBut (((s.updSlot i fun x => x.entered n rn .armed).unpin l).pin n) i :=
    h.congr (y := (s.slot i).entered n rn .armed) (by simp)
  unfold State.entersNext
  dsimp only
  split
  · exact hentered.becomeHeld n
  · exact hentered.goOn n atCommit

theorem State.ArbitratedBut.legEndStep3 (h : s.ArbitratedBut i) (l : LegIx) (r : LegRecord) (atCommit : Bool) :
    (s.legEndStep3 i l r atCommit).Arbitrated := by
  unfold State.legEndStep3
  split
  · exact h.chainEnds l
  · split
    · split
      · exact h.entersNext l r _ _ atCommit
      · exact h.enterFaulted l .leg 0
    · exact h.enterFaulted l .leg 0

theorem State.ArbitratedBut.legEndStep2 (h : s.ArbitratedBut i) (l : LegIx) (r : LegRecord) (atCommit : Bool) :
    (s.legEndStep2 i l r atCommit).Arbitrated := by
  have hpass {u : State} (hu : u.view = s.view) : ((u.pass .legEnd i).legEndStep3 i l r atCommit).Arbitrated :=
    State.ArbitratedBut.legEndStep3 (h.of_view ((u.view_pass _ _).trans hu)) l r atCommit
  unfold State.legEndStep2
  dsimp only
  split
  · exact hpass (s.view_report _)
  · exact hpass rfl

theorem State.ArbitratedBut.afterBurst (h : s.ArbitratedBut i) (l : LegIx) (r : LegRecord) : (s.afterBurst i l r).Arbitrated := by
  have hlegEnd : (s.legEndStep1 i l r).Arbitrated := by
    unfold State.legEndStep1
    split
    · exact h.enterFaulted l _ 0
    · exact h.legEndStep2 l r true
  unfold State.afterBurst
  split
  · exact hlegEnd
  · split
    · exact h.becomeHeld l
    · exact h.goOn l true

theorem State.Arbitrated.commit (h : s.Arbitrated) (hi : (s.slot i).standing = .inLeg l .active) (hmover : s.arb.mover = .busy i snap)
    (r : LegRecord) : (s.commit i l r).Arbitrated := by
  rw [State.commit_eq_afterBurst]
  exact (h.but_of_released hi hmover (State.view_commitSteps (s := s) (i := i) (l := l) (r := r))).afterBurst l r

/-- The resume of a FAULTED slot (R99–R102). -/
theorem State.Arbitrated.resumeFaulted (h : s.Arbitrated) {f : FaultRecord} (hi : (s.slot i).standing = .inLeg l (.faulted f))
    {c : FaultCause} (hres : s.resumeFaulted i l c = .done t) : t.Arbitrated := by
  have hbut := h.but (Slot.outsideBurst_of_faulted hi)
  unfold State.resumeFaulted at hres
  split at hres
  all_goals split at hres <;> cases hres
  · exact hbut.rearm l
  · exact hbut.rearm l
  · exact hbut.rearm l
  · exact hbut.legEndStep2 l _ false
  · exact hbut.legEndStep3 l _ false

/-! ## Cancels and the release -/

theorem State.Arbitrated.cancelSuspended (h : s.Arbitrated) (hi : (s.slot i).standing = .inLeg l .suspended) :
    (s.cancelSuspended i l).Arbitrated := by
  refine .of_view (h.unstack (y := (s.slot i).cancelledFrom (s.stackSnapshot i)) (Slot.isSuspended_iff.mpr ⟨l, hi⟩)
    (Slot.outsideBurst_cancelledFrom _ _) ?_ ?_) ?_
  · cases s.stackSnapshot i <;> rfl
  · cases s.stackSnapshot i <;> rfl
  · simp only [State.cancelSuspended, State.view_idleFrom, State.view_setStack, State.slot_setStack]
    cases s.stackSnapshot i with
    | none => rfl
    | some snap => simp [State.slot_rollback, View.set, Slot.cancelledFrom]

/-- A slot that is not ACTIVE is cancelled where it stands (R44). -/
theorem State.Arbitrated.cancelAtOnce (h : s.Arbitrated) (hi : (s.slot i).isActive = false) : (s.cancelAtOnce i).Arbitrated := by
  unfold State.cancelAtOnce
  split
  · exact h
  · next hst =>
    exact (h.but (i := i) (Slot.outsideBurst_of_atRest (by simp [Slot.atRest, hst]))).cancelled (y := s.slot i)
      (by simp [State.idleFromDone])
  · next hst => exact h.cancelSuspended hst
  · next l st hne hst =>
    have hsuspended : (s.slot i).isSuspended = false := by
      by_contra hsus
      obtain ⟨k, hk⟩ := Slot.isSuspended_iff.mp (by simpa using hsus)
      obtain ⟨-, rfl⟩ := Standing.inLeg.inj (hst.symm.trans hk)
      exact hne rfl
    exact (h.but ⟨hi, hsuspended⟩).cancelled (State.view_idleFrom ..)

theorem State.Arbitrated.cancelWaiting (h : s.Arbitrated) (hfree : s.view.Free) : s.cancelWaiting.Arbitrated := by
  rcases State.cancelWaiting_cases (s := s) with ⟨e, i, -, -, hcancel⟩ | ⟨-, hsame⟩
  · rw [hcancel]
    exact h.cancelAtOnce (h.burst.not_active hfree i)
  · rwa [hsame]

theorem State.Arbitrated.release (h : s.Arbitrated) (hfree : s.view.Free) : s.release.Arbitrated :=
  State.arbitrated_select (h.cancelWaiting hfree).toLined (State.free_cancelWaiting hfree)

/-- A waiting cancel acts or not, and the release stays outstanding (R45, R84). -/
theorem State.Arbitrated.release_stays (h : s.Arbitrated) (hfree : s.view.Free) (now : Prop) [Decidable now] (c n : Nat) :
    ((if now then s.cancelWaiting else s).setMover (.releasing c n)).Arbitrated := by
  have hstays {u : State} (hu : u.Arbitrated) (hfree : u.view.Free) : (u.setMover (.releasing c n)).Arbitrated :=
    View.Lined.arbitrated (hu.toLined.set_mover hfree (by simp)) Mover.noConfusion
  split
  · exact hstays (h.cancelWaiting hfree) (State.free_cancelWaiting hfree)
  · exact hstays h hfree

theorem State.Arbitrated.releaseAt (h : s.Arbitrated) (hfree : s.view.Free) (c n : Nat) : (s.releaseAt c n).Arbitrated := by
  unfold State.releaseAt
  split
  · exact h.release hfree
  · exact h.release_stays hfree _ _ _

theorem State.Arbitrated.passPoint (h : s.Arbitrated) : s.passPoint.Arbitrated := by
  unfold State.passPoint
  split
  · next hmover =>
    have hfree : s.view.Free := by simp [View.Free, hmover]
    split
    · exact h.release hfree
    · exact h.release_stays hfree _ _ _
  · exact h

theorem State.arbitrated_engineReset (s : State) (q : Request) : (s.engineReset q).Arbitrated :=
  .of_view (View.arbitrated_reset s.view.record)
    (State.view_ext (fun j => by simp [State.engineReset, State.resetBlocks, State.slot]) rfl rfl
      fun l => by simp [State.engineReset, State.resetBlocks, State.leg, State.view])

/-! ## The element -/

theorem State.Arbitrated.endBurst (h : s.Arbitrated) (hfree : s.view.Free) (c n : Nat) : (s.endBurst c n).Arbitrated := by
  unfold State.endBurst
  split
  · split
    · exact s.arbitrated_engineReset _
    · exact h.releaseAt hfree c n
  · exact h.releaseAt hfree c n

section
variable (h : s.Arbitrated) (hi : (s.slot i).standing = .inLeg l .active) (hmover : s.arb.mover = .busy i snap)
include h hi hmover

/-- The burst is rolled back, and the mover stands at its release (R92, R45). -/
theorem State.Arbitrated.rolledBack : State.ArbitratedBut ((s.rollback i l snap).setMover (.releasing 0 0)) i :=
  h.but_of_released hi hmover (y := (s.slot i).rolledBack snap) (c := 0) (k := 0) (by simp)

theorem State.Arbitrated.elementFails (cause : FaultCause) (c n : Nat) : (s.elementFails c n i l snap cause).Arbitrated :=
  ((h.rolledBack hi hmover).enterFaulted l cause (s.slot i).element).endBurst (by simp [View.Free, View.set]) c n

theorem State.Arbitrated.cancelActive (n : Nat) (q : Request) : (s.cancelActive n i l snap q).Arbitrated := by
  have hidle : State.Arbitrated
      ((((s.rollback i l snap).setMover (.releasing 0 0)).idleFrom i l (s.slot i).element).answer q (Reply.bare .ok)) :=
    (h.rolledBack hi hmover).cancelled (State.view_idleFrom _ i l (s.slot i).element)
  exact hidle.releaseAt (by simp [View.Free]) 0 n

theorem State.Arbitrated.midBurst (n : Nat) : (s.midBurst n i l snap).Arbitrated := by
  have hcheck := h.preemptionCheck hi hmover
  unfold State.midBurst
  split
  · split
    · split
      · exact h.cancelActive hi hmover n _
      · exact hcheck
    · exact s.arbitrated_engineReset _
    · exact hcheck
  · exact hcheck

theorem State.Arbitrated.elementCompletes (c n : Nat) (r : LegRecord) : (s.elementCompletes c n i l r snap).Arbitrated := by
  unfold State.elementCompletes
  split
  · let risen := s.updSlot i fun x => { x with element := x.element + 1 }
    have hrisen : risen.Arbitrated :=
      .of_view (h.set_context (y := { s.slot i with element := (s.slot i).element + 1 }) rfl rfl) (State.view_updSlot ..)
    have hactive : (risen.slot i).standing = .inLeg l .active := by simpa [risen] using hi
    exact hrisen.midBurst hactive hmover n
  · exact (h.commit hi hmover r).endBurst (s.free_commit i l r) c n

/-- The element in flight changes its slot's context, and gives the grant back, before it completes or fails (R52). -/
theorem State.Arbitrated.runElement {order : ElementOrder} {r : LegRecord} (ht : s.runElement order i l r snap = .next t) :
    t.Arbitrated := by
  unfold State.runElement at ht
  split at ht
  · next u hsteps =>
    cases ht
    obtain ⟨w, hu⟩ := State.view_elementSteps hsteps
    have hgiven : (u.giveBackGrant r).view = s.view.set i ((s.slot i).stepped r w) := (u.view_giveBackGrant r).trans hu
    have hmoved : (u.giveBackGrant r).Arbitrated := .of_view (h.set_context (y := (s.slot i).stepped r w) rfl rfl) hgiven
    refine hmoved.elementCompletes ?_ ((congrArg View.mover hgiven).trans hmover) _ _ r
    rw [State.slot_of_view hgiven i, View.set_slots_same]
    exact hi
  · next cause _ =>
    cases ht
    have hgiven := s.view_giveBackGrant r
    refine (h.congr hgiven).elementFails ?_ ((congrArg View.mover hgiven).trans hmover) cause _ _
    rw [State.slot_of_view hgiven i]
    exact hi
  · cases ht

end

theorem State.Arbitrated.element (h : s.Arbitrated) {order : ElementOrder} (ht : execElement order s = .next t) : t.Arbitrated := by
  unfold execElement at ht
  split at ht
  · split at ht
    · next i snap hmover =>
      split at ht
      · next l hi =>
        split at ht
        · split at ht
          · cases ht
            exact h
          · exact h.runElement hi hmover ht
        · cases ht
      · cases ht
    · next hmover =>
      cases ht
      exact h.release (by simp [View.Free, hmover])
    · cases ht
      exact h
  · cases ht
    exact h

/-! ## The trigger table -/

theorem State.Arbitrated.act (h : s.Arbitrated) (k : TrigIx) (i : SlotIx) (a : Action) : (s.act k i a).Arbitrated := by
  unfold State.act
  split
  · split
    · next ht => exact h.addCredits ht
    · exact h
  · split
    · next ht => exact h.arm ht
    · exact h
  · split
    · next ht => exact h.hold? ht
    · exact h

theorem State.Arbitrated.fireEntry (h : s.Arbitrated) (e : SlotEvent) (k : TrigIx) : (s.fireEntry e k).Arbitrated := by
  have htaken : (if (s.trigger k).oneShot then s.setTrigger k { s.trigger k with enabled := false } else s).Arbitrated := by
    split
    · exact h
    · exact h
  unfold State.fireEntry
  split
  · exact htaken.act _ _ _
  · exact h

theorem State.Arbitrated.scan (h : s.Arbitrated) (e : SlotEvent) : (s.scan e).Arbitrated := by
  unfold State.scan
  generalize List.finRange 32 = ks
  induction ks generalizing s with
  | nil => exact h.passPoint
  | cons k ks ih => exact ih (h.passPoint.fireEntry e k)

end Sys2Proof.Machine
end

section
/-! # The law of the arbiter is kept by every step (O57) -/

namespace Sys2Proof.Machine

variable {s t u : State} {k : ReqKind}

theorem State.OnlyLink.arbitrated (h : s.OnlyLink t) (hs : s.Arbitrated) : t.Arbitrated := hs.congr h.view_eq

theorem State.Arbitrated.serve (hs : s.Arbitrated) {owner : Request → State → Host.Outcome State Fault Refusal}
    (howner : ∀ {r} {t u : State}, t.Arbitrated → owner r t = .next u → u.Arbitrated) (h : s.serve k owner = .next u) : u.Arbitrated :=
  State.serve_keeps State.OnlyLink.arbitrated howner hs h

theorem State.Arbitrated.serveNow (hs : s.Arbitrated) {owner : List Byte → State → State × Reply}
    (howner : ∀ b {t : State}, t.Arbitrated → (owner b t).1.Arbitrated) (h : s.serveNow k owner = .next u) : u.Arbitrated :=
  State.serveNow_keeps State.OnlyLink.arbitrated howner hs h

theorem State.Arbitrated.whenRunning (hs : s.Arbitrated) {f : State → State} (hf : ∀ {t : State}, t.Arbitrated → (f t).Arbitrated)
    (h : s.whenRunning f = .next u) : u.Arbitrated := State.whenRunning_keeps hf hs h

/-- A request row whose owner the view does not see. -/
theorem State.Arbitrated.unseenRow (hs : s.Arbitrated) {owner : List Byte → State → State × Reply}
    (howner : ∀ b (t : State), (owner b t).1.view = t.view) (h : s.serveNow k owner = .next u) : u.Arbitrated :=
  hs.serveNow (fun b t ht => ht.congr (howner b t)) h

/-- A row that is not a request and that the view does not see. -/
theorem State.Arbitrated.unseen (hs : s.Arbitrated) {f : State → State} (hf : ∀ t : State, (f t).view = t.view)
    (h : s.whenRunning f = .next u) : u.Arbitrated := hs.whenRunning (fun {t} ht => ht.congr (hf t)) h

/-- An owner's answer follows what the owner has done. -/
theorem State.Arbitrated.answered {r : Request} {rep : Reply} (ht : t.Arbitrated)
    (h : (Host.Outcome.next (t.answer r rep) : Host.Outcome State Fault Refusal) = .next u) : u.Arbitrated := by
  cases h
  exact ht

/-- A slot request answers RANGE and changes nothing, or acts on its slot (R22). -/
theorem State.Arbitrated.withSlot (ht : t.Arbitrated) {b : List Byte} {f : SlotIx → State × Reply} (hf : ∀ i, (f i).1.Arbitrated) :
    (withSlot b t f).1.Arbitrated := by
  unfold Machine.withSlot
  split
  · exact ht
  · exact hf _

/-! ## The leg store and the slot table -/

theorem State.Arbitrated.legLoad (hs : s.Arbitrated) (h : execLegLoad s = .next u) : u.Arbitrated := by
  rcases execLegLoad_shows h with hview | ⟨l, r, -, hview⟩
  · exact hs.congr hview
  · exact .of_view (View.Arbitrated.set_record hs _) hview

theorem State.Arbitrated.legLink (hs : s.Arbitrated) (h : execLegLink s = .next u) : u.Arbitrated := by
  refine hs.serveNow (fun b t ht => ?_) h
  split
  · exact ht
  · next l _ =>
    split
    · exact ht
    · split
      · exact ht
      · exact .of_view (View.Arbitrated.set_record ht _) (t.view_writeRecord l _)

/-- SLOT-SETUP writes a PRIORITY only in IDLE and DONE, so no burst in flight has it changed (R24). -/
theorem State.Arbitrated.slotSetup (hs : s.Arbitrated) (h : execSlotSetup s = .next u) : u.Arbitrated := by
  refine hs.serveNow (fun b t ht => ht.withSlot fun i => ?_) h
  split
  · exact ht
  · next setup _ =>
    split
    · next hrest =>
      split
      · exact ht
      · refine (ht.but (Slot.outsideBurst_of_atRest hrest)).write (t.view_updSlot i _)
          (Slot.outsideBurst_of_atRest (x := { t.slot i with setup := setup }) hrest) ?_
        rcases Slot.atRest_iff.mp hrest with hx | hx <;> simp [Slot.isReady, hx]
    · exact ht

theorem State.Arbitrated.slotArm (hs : s.Arbitrated) (h : execSlotArm s = .next u) : u.Arbitrated := by
  refine hs.serveNow (fun b t ht => ht.withSlot fun i => ?_) h
  split
  · next harm => exact ht.arm harm
  · exact ht

theorem State.Arbitrated.slotStart (hs : s.Arbitrated) (h : execSlotStart s = .next u) : u.Arbitrated := by
  refine hs.serveNow (fun b t ht => ht.withSlot fun i => ?_) h
  split
  · split
    · next hadd => exact ht.addCredits hadd
    · exact ht
  · exact ht

theorem State.Arbitrated.slotHold (hs : s.Arbitrated) (h : execSlotHold s = .next u) : u.Arbitrated := by
  refine hs.serveNow (fun b t ht => ht.withSlot fun i => ?_) h
  split
  · next hhold => exact ht.hold? hhold
  · exact ht

theorem State.Arbitrated.slotResume (hs : s.Arbitrated) (h : execSlotResume s = .next u) : u.Arbitrated := by
  refine hs.serve (fun {r t u} ht hu => ?_) h
  split at hu
  · exact ht.answered hu
  · next i _ =>
    split at hu
    · next l hi => exact ((ht.but_of_standing (i := i) hi rfl).rearm l).answered hu
    · split at hu
      · exact (ht.holdFlag i false).answered hu
      · exact ht.answered hu
    · split at hu
      · exact (ht.holdFlag i false).answered hu
      · exact ht.answered hu
    · next hi =>
      split at hu
      · next hres => exact (ht.resumeFaulted hi hres).answered hu
      · exact ht.answered hu
      · cases hu
    · exact ht.answered hu

/-- A cancel of the ACTIVE slot waits for its element, and any other acts at once (R44, R45). -/
theorem State.Arbitrated.slotCancel (hs : s.Arbitrated) (h : execSlotCancel s = .next u) : u.Arbitrated := by
  refine hs.serve (fun {r t u} ht hu => ?_) h
  split at hu
  · exact ht.answered hu
  · next i _ =>
    split at hu
    · exact ht.answered hu
    · cases hu
      exact ht
    · next hactive =>
      refine (ht.cancelAtOnce (i := i) ?_).answered hu
      by_contra hi
      obtain ⟨l, hl⟩ := Slot.isActive_iff.mp (by simpa using hi)
      exact hactive l hl

/-! ## The buffer, the ports, the events and the resets -/

theorem State.Arbitrated.bufWrite (hs : s.Arbitrated) {o : AskOrder} (h : execBufWrite o s = .next u) : u.Arbitrated := by
  refine hs.serve (fun {r t u} ht hu => ?_) h
  split at hu
  · cases hu
    exact ht.congr (t.view_startBlock r o)
  · exact ht.answered hu

theorem State.Arbitrated.bufRead (hs : s.Arbitrated) {o : AskOrder} (h : execBufRead o s = .next u) : u.Arbitrated := by
  refine hs.serve (fun {r t u} ht hu => ?_) h
  split at hu
  · split at hu
    · cases hu
      exact ht.congr (t.view_startBlock r o)
    · exact ht.answered hu
  · exact ht.answered hu

theorem State.Arbitrated.engineResetRow (hs : s.Arbitrated) (h : execEngineReset s = .next u) : u.Arbitrated := by
  refine hs.serve (fun {r t u} ht hu => ?_) h
  split at hu <;> cases hu
  · exact ht
  · exact t.arbitrated_engineReset r

theorem State.arbitrated_powerReset (h : execPowerReset s = .next u) : u.Arbitrated := by
  cases h
  exact .of_view (View.arbitrated_reset fun _ => none)
    (State.view_ext (fun i => by simp [State.slot, State.reset]) rfl rfl fun l => by simp [State.leg, State.reset, LegEntry.initial])

/-- A change of a port and its signal (R132). -/
theorem State.Arbitrated.updPort_signal (hs : s.Arbitrated) (p : PortIx) (f : Port → Port) (was : Bool) :
    ((s.updPort p f).signal p was).Arbitrated := State.Arbitrated.signal (s := s.updPort p f) hs p was

theorem State.Arbitrated.portSetup (hs : s.Arbitrated) (h : execPortSetup s = .next u) : u.Arbitrated := by
  refine hs.serveNow (fun b t ht => ?_) h
  split
  · exact ht
  · split
    · exact ht
    · split
      · split
        · exact ht
        · exact ht.updPort_signal _ _ _
      · exact ht

theorem State.Arbitrated.arrive (hs : s.Arbitrated) (p : PortIx) (w : Word) : (s.arrive p w).Arbitrated := by
  unfold State.arrive
  split
  · split
    · exact hs.updPort_signal _ _ _
    · refine hs.congr ?_
      unfold State.overruns
      dsimp only
      split <;> rfl
  · exact hs

theorem State.Arbitrated.takeWord (hs : s.Arbitrated) (p : PortIx) : (s.takeWord p).Arbitrated := by
  unfold State.takeWord
  split
  · split
    · split
      · exact hs.updPort_signal _ _ _
      · refine hs.congr ?_
        unfold State.underruns
        dsimp only
        split <;> rfl
    · exact hs
  · exact hs

theorem State.Arbitrated.triggerEvent (hs : s.Arbitrated) (h : execTriggerEvent s = .next u) : u.Arbitrated := by
  refine hs.whenRunning (fun {t} ht => ?_) h
  split
  · exact ht
  · next e rest _ =>
    have htaken : State.Arbitrated { t with events := rest } := ht
    exact htaken.scan e

theorem State.Arbitrated.paceExpires (hs : s.Arbitrated) (i : SlotIx) : (s.paceExpires i).Arbitrated := by
  unfold State.paceExpires
  split
  · next l _ hi => exact (hs.but_of_standing hi rfl).rearm l
  · exact hs

theorem State.Arbitrated.tick (hs : s.Arbitrated) : s.tick.Arbitrated :=
  .of_view (View.Arbitrated.tick hs) (State.view_ext (fun i => s.slot_tick i) rfl rfl fun _ => rfl)

/-! ## Every command and every step -/

theorem State.Arbitrated.exec (hs : s.Arbitrated) {c : Instr} (h : exec c s = .next u) : u.Arbitrated := by
  cases c with
  | powerReset => exact State.arbitrated_powerReset h
  | resetRelease straps => cases h; exact hs.congr (by split <;> rfl)
  | startUpEnd => cases h; exact hs.congr (by split <;> rfl)
  | upset x =>
    change execUpset x s = .next u at h
    unfold execUpset at h
    split at h <;> cases h <;> exact hs
  | legLoad => exact hs.legLoad h
  | legLink => exact hs.legLink h
  | slotSetup => exact hs.slotSetup h
  | slotArm => exact hs.slotArm h
  | slotStart => exact hs.slotStart h
  | slotHold => exact hs.slotHold h
  | slotResume => exact hs.slotResume h
  | slotCancel => exact hs.slotCancel h
  | bufWrite o => exact hs.bufWrite h
  | bufRead o => exact hs.bufRead h
  | engineReset => exact hs.engineResetRow h
  | portSetup => exact hs.portSetup h
  | wordArrival p w => exact hs.whenRunning (fun ht => ht.arrive p w) h
  | wordTake p => exact hs.whenRunning (fun ht => ht.takeWord p) h
  | triggerEvent => exact hs.triggerEvent h
  | element order => exact hs.element h
  | paceExpiry i => exact hs.whenRunning (fun ht => ht.paceExpires i) h
  | hostBlockGrant =>
    exact hs.unseen (fun t => by split <;> [(split <;> [exact t.view_runBlock _; rfl]); rfl]) (show execHostBlockGrant s = _ from h)
  | fenceSet =>
    exact hs.unseenRow (fun b t => by split <;> [rfl; (split <;> [rfl; exact State.view_eq (by simp) (by simp) (by simp)])])
      (show execFenceSet s = _ from h)
  | fenceRead => exact hs.unseenRow (fun b t => by split <;> rfl) (show execFenceRead s = _ from h)
  | legRead => exact hs.unseenRow (fun b t => by split <;> rfl) (show execLegRead s = _ from h)
  | slotQuery => exact hs.unseenRow (fun b t => by unfold Machine.withSlot; split <;> rfl) (show execSlotQuery s = _ from h)
  | trigSet => exact hs.unseenRow (fun b t => by split <;> [rfl; (split <;> rfl)]) (show execTrigSet s = _ from h)
  | trigRead => exact hs.unseenRow (fun b t => by split <;> rfl) (show execTrigRead s = _ from h)
  | portQuery => exact hs.unseenRow (fun b t => by split <;> [rfl; (dsimp only; split <;> rfl)]) (show execPortQuery s = _ from h)
  | reportAck => exact hs.unseenRow (fun b t => by split <;> rfl) (show execReportAck s = _ from h)
  | reportReplay => exact hs.unseenRow (fun b t => by split <;> rfl) (show execReportReplay s = _ from h)
  | reportGate => exact hs.unseenRow (fun _ _ => rfl) (show execReportGate s = _ from h)
  | hello => exact hs.unseenRow (fun _ _ => rfl) (show execHello s = _ from h)
  | linkStatus => exact hs.unseenRow (fun b t => by dsimp only; split <;> rfl) (show execLinkStatus s = _ from h)
  | byteDelivered b => exact hs.unseen (fun t => t.view_deliverUnlessBreak b) (show execByteDelivered b s = _ from h)
  | frameReceived b =>
    exact hs.unseen (fun t => by split <;> [exact t.view_deliverUnlessBreak b; rfl]) (show execFrameReceived b s = _ from h)
  | lengthError b => exact hs.unseen (fun t => by split <;> [exact t.view_deliverUnlessBreak b; rfl]) (show execLengthError b s = _ from h)
  | gapTimeout => exact hs.unseen (fun t => by split <;> rfl) (show execGapTimeout s = _ from h)
  | lineBreak => exact hs.unseen (fun t => by split <;> rfl) (show execLineBreak s = _ from h)
  | lineHighAfterBreak => exact hs.unseen (fun t => (t.onlyLink_updLink _).view_eq) (show execLineHighAfterBreak s = _ from h)
  | transmitReply => exact hs.unseen (fun t => by split <;> rfl) (show execTransmitReply s = _ from h)
  | transmitReport => exact hs.unseen (fun t => by split <;> rfl) (show execTransmitReport s = _ from h)
  | frameSent => exact hs.unseen (fun t => by split <;> [exact State.view_choose _; rfl]) (show execFrameSent s = _ from h)

theorem State.Arbitrated.step (hs : s.Arbitrated) (h : step s = .next t) : t.Arbitrated := by
  unfold Machine.step at h
  split at h
  · cases h
    exact hs.tick
  · next rest _ =>
    have hqueue : State.Arbitrated { s with pending := rest } := hs
    exact hqueue.exec h

end Sys2Proof.Machine

namespace Sys2Proof

open Machine

/-- Settles O57: the law reads as `View.Arbitrated` of what the state shows, and every command keeps it. -/
theorem arbiterLawKept : Obligations.ArbiterLawKept := fun _ _ h hstep =>
  State.arbitrated_iff.mpr ((State.arbitrated_iff.mp h).step hstep)

end Sys2Proof
end

section
/-! # The best ready slot and the selection at a release (O49) -/

namespace Sys2Proof.Machine

variable {s : State} {i j : SlotIx} {l : LegIx} {r : LegRecord} {top : Suspended} {rest : List Suspended}

/-! ## The best ready slot (R74) -/

theorem State.mem_readySet : i ∈ s.readySet ↔ (s.slot i).isReady = true := by simp [State.readySet]

theorem State.before_iff :
    s.before i j = true ↔
      (s.slot j).setup.priority < (s.slot i).setup.priority ∨
        ((s.slot j).setup.priority = (s.slot i).setup.priority ∧
          (i.val + 15 - (s.arb.pointers.get (s.slot i).setup.priority).val) % 16 <
            (j.val + 15 - (s.arb.pointers.get (s.slot i).setup.priority).val) % 16) := by
  rw [eq_comm (a := (s.slot j).setup.priority)]
  simp only [State.before, Bool.or_eq_true, Bool.and_eq_true, decide_eq_true_eq]
  rfl

/-- Of two slots at most one goes before the other. -/
theorem State.before_asymm (h : s.before i j = true) : ¬ s.before j i = true := by
  rw [State.before_iff] at h ⊢
  rintro (hlt | ⟨heq, hturn⟩)
  · rcases h with hlt' | ⟨heq', -⟩
    · exact lt_asymm hlt hlt'
    · exact hlt.ne heq'.symm
  · rcases h with hlt' | ⟨-, hturn'⟩
    · exact hlt'.ne heq.symm
    · rw [heq] at hturn'
      exact lt_asymm hturn hturn'

/-- The best ready slot goes before every other READY one. -/
theorem State.before_of_bestReady (h : s.bestReady = some i) (hj : (s.slot j).isReady = true) (hne : j ≠ i) : s.before i j = true := by
  have hbest := List.find?_some h
  simpa [hne] using List.all_eq_true.mp hbest j (State.mem_readySet.mpr hj)

/-- The READY slot that goes before every other READY one is the best: no other does as well. -/
theorem State.bestReady_eq_some_iff :
    s.bestReady = some i ↔ (s.slot i).isReady = true ∧ ∀ j, (s.slot j).isReady = true → j ≠ i → s.before i j = true := by
  refine ⟨fun h => ⟨State.mem_readySet.mp (List.mem_of_find?_eq_some h), fun _ => State.before_of_bestReady h⟩, ?_⟩
  rintro ⟨hi, hbefore⟩
  cases hbest : s.bestReady with
  | none => simp [State.not_ready_of_bestReady_none hbest i] at hi
  | some k =>
    by_contra hne
    have hik : i ≠ k := fun h => hne (congrArg some h.symm)
    have hk : (s.slot k).isReady = true := State.mem_readySet.mp (List.mem_of_find?_eq_some hbest)
    exact State.before_asymm (State.before_of_bestReady hbest hi hik) (hbefore k hk hik.symm)

theorem State.bestReady_eq_none_iff : s.bestReady = none ↔ ∀ i, (s.slot i).isReady = false := by
  refine ⟨State.not_ready_of_bestReady_none, fun h => Option.eq_none_iff_forall_ne_some.mpr fun i hi => ?_⟩
  have hready := (State.bestReady_eq_some_iff.mp hi).1
  simp [h i] at hready

/-! ## The selection (R81–R83) -/

/-- A pop of the stack's top, with its element's ask (R83, R146). -/
theorem State.pop_eq {st : LegState} (hi : (s.slot top.slot).standing = .inLeg l st) (hr : (s.leg l).record = some r) :
    s.pop top rest =
      { s with
        slots := s.slots.set top.slot { s.slot top.slot with standing := .inLeg l .active }
        arb := { s.arb with stack := rest, mover := .busy top.slot top.snapshot }
        bufArb :=
          if r.usesBuffer = true ∧ s.bufArb.grant = some .link then { s.bufArb with waiting := some .mover } else s.bufArb } := by
  let popped := ((s.setLegState top.slot l .active).setStack rest).setMover (.busy top.slot top.snapshot)
  have hactive : (popped.slot top.slot).standing = .inLeg l .active := by simp [popped, State.slot_setLegState]
  have hleg : (popped.leg l).record = some r := hr
  have hmover : popped.arb.mover = .busy top.slot top.snapshot := rfl
  have hflight : popped.bufferInFlight = r.usesBuffer := by
    simp only [State.bufferInFlight, hmover, Slot.currentLeg_of_standing hactive, hleg]
  have hbufArb : popped.bufArb = s.bufArb := rfl
  have hpop : s.pop top rest = popped.elementBegins := by simp only [State.pop, hi, popped]
  rw [hpop, State.elementBegins, hflight, hbufArb]
  by_cases hwaits : r.usesBuffer = true ∧ s.bufArb.grant = some .link
  · rw [if_pos hwaits, if_pos hwaits]
    rfl
  · rw [if_neg hwaits, if_neg hwaits]
    rfl

/-- The best ready slot does not preempt the stack's top, or there is none. -/
theorem State.select_eq_pop (hstack : s.arb.stack = top :: rest)
    (hbelow : ∀ q, s.bestReady = some q →
      ¬ ((s.slot top.slot).setup.priority < (s.slot q).setup.priority ∧ (s.slot q).setup.preempt = true)) :
    s.select = s.pop top rest := by
  unfold State.select
  rw [hstack]
  cases hbest : s.bestReady with
  | none => rfl
  | some q => exact if_neg (hbelow q hbest)

theorem State.select_eq_grant (hstack : s.arb.stack = top :: rest) (hbest : s.bestReady = some i)
    (habove : (s.slot top.slot).setup.priority < (s.slot i).setup.priority ∧ (s.slot i).setup.preempt = true) :
    s.select = s.grant i := by
  unfold State.select
  rw [hstack, hbest]
  exact if_pos habove

theorem State.select_eq_idle (hstack : s.arb.stack = []) (hbest : s.bestReady = none) : s.select = s.setMover .idle := by
  unfold State.select
  rw [hstack, hbest]

theorem State.select_eq_grant_of_nil (hstack : s.arb.stack = []) (hbest : s.bestReady = some i) :
    s.select = (s.setMover .idle).grant i := by
  unfold State.select
  rw [hstack, hbest]

end Sys2Proof.Machine

namespace Sys2Proof

open Machine

/-- Settles O49: `State.before` orders the READY slots, and the branches of the selection are taken one by one. -/
theorem theBestReadySlotIsGrantedOrTheTopPopped : Obligations.TheBestReadySlotIsGrantedOrTheTopPopped := by
  refine fun s => ⟨State.bestReady_eq_none_iff, fun i => ?_,
    fun hstack => ⟨fun hnone => State.select_eq_idle hstack (State.bestReady_eq_none_iff.mpr hnone),
      fun q hbest => State.select_eq_grant_of_nil hstack hbest⟩,
    fun top rest hstack => ⟨fun q hbest habove => State.select_eq_grant hstack hbest habove, fun l r hbelow hi hr => ?_⟩⟩
  · simp only [State.bestReady_eq_some_iff, State.before_iff]
  · rw [State.select_eq_pop hstack hbelow, State.pop_eq hi hr]

end Sys2Proof
end

section
/-! # TRIG_READ and the actions of a trigger entry (O34, O44) -/

namespace Sys2Proof.Machine

variable {s u : State} {k : TrigIx} {i : SlotIx}

/-- The five bytes of an entry, each field spelt out (R201). -/
theorem Trigger.bytes_eq (t : Trigger) :
    t.bytes =
      [BitVec.ofNat 8 ((if t.enabled then 1 else 0) + (if t.oneShot then 2 else 0))]
        ++ [(match t.event with
          | .burstEnd => 0x00 | .mark => 0x01 | .legEnd => 0x02 | .chainEnd => 0x03 | .fault => 0x04 : Byte)]
        ++ leBytes 1 t.source.val ++ leBytes 1 t.target.val
        ++ [(match t.action with | .start => 0x00 | .arm => 0x01 | .hold => 0x02 : Byte)] := by
  obtain ⟨enabled, oneShot, event, source, target, action⟩ := t
  cases event <;> cases action <;> rfl

/-! ## What an action comes to: the target's claim, or a drop (R113–R116) -/

/-- The state after a dropped action: one TRIGGER-DROP report (R116). -/
def State.dropped (s : State) (k : TrigIx) (i : SlotIx) (reason : DropReason) : State :=
  { s with reports := s.reports.take (.triggerDrop k i reason) }

theorem State.act_start_taken (h : s.addCredits i 1 = .ok u) : s.act k i .start = u := by
  simp only [State.act, h]

theorem State.act_start_refused {e : CreditRefusal} (h : s.addCredits i 1 = .error e) :
    s.act k i .start = s.dropped k i e.dropReason := by
  simp only [State.act, h]
  rfl

theorem State.act_hold_taken (h : s.hold? i = some u) : s.act k i .hold = u := by
  simp only [State.act, h]

theorem State.act_hold_refused (h : s.hold? i = none) : s.act k i .hold = s.dropped k i .state := by
  simp only [State.act, h]
  rfl

theorem State.act_arm_taken (h : s.arm i = .ok u) : s.act k i .arm = u := by
  simp only [State.act, h]

theorem State.act_arm_refused {e : ArmRefusal} (h : s.arm i = .error e) : s.act k i .arm = s.dropped k i e.dropReason := by
  simp only [State.act, h]
  rfl

end Sys2Proof.Machine

namespace Sys2Proof

open Machine

/-- Settles O34: the reply carries the entry's bytes, or is RANGE. -/
theorem trigReadReturnsTheEntry : Obligations.TrigReadReturnsTheEntry := by
  intro s r rest k htakes hkind hk hbody
  obtain ⟨hcheck, hindex⟩ := slotBody (k := .trigRead) rfl rfl hk hbody
  show execTrigRead s = _
  split
  · next hlt =>
    have hread : execTrigRead s = .next { s with link := replied s.link r rest .ok (s.trigger ⟨k, hlt⟩).bytes } :=
      State.serveNow_of_takes (u := s.taken rest) (rep := Reply.okWith (s.trigger ⟨k, hlt⟩).bytes) htakes hkind hcheck
        (by simp only [hindex, index?_of_lt hlt]; rfl) rfl
    rw [Trigger.bytes_eq] at hread
    exact hread
  · next hlt =>
    exact State.serveNow_of_takes (u := s.taken rest) (rep := Reply.bare .range) htakes hkind hcheck
      (by simp only [hindex, index?_of_not_lt hlt]) rfl

/-- Settles O44: each action is the claim of the request of its name, and a refusal of the claim is a drop. -/
theorem triggerActionsAtTheTarget : Obligations.TriggerActionsAtTheTarget := by
  intro s k i drop atRest taken
  have hadd := State.addCredits_eq s i 1
  refine ⟨fun hbound => ?_, fun hfree hrest => ?_, fun hfree hrest => ?_, ?_, fun hrest => ?_, fun hrest hfirst => ?_,
    fun l hrest hfirst => ⟨fun hheld => ?_, fun hfree hleg => ?_, fun rec hfree hleg hrec => ?_⟩⟩
  · exact State.act_start_refused (hadd.trans (if_pos hbound))
  · exact State.act_start_refused ((hadd.trans (if_neg (by simp [hfree]))).trans (if_pos hrest))
  · replace hadd := (hadd.trans (if_neg (by simp [hfree]))).trans (if_neg hrest)
    split
    · next hlimit => exact State.act_start_refused (hadd.trans (if_pos hlimit))
    · next hlimit => exact State.act_start_taken (hadd.trans (if_neg hlimit))
  · split
    · next h => exact State.act_hold_taken (State.hold?_of_betweenBursts h (.inl rfl))
    · next h => exact State.act_hold_taken (State.hold?_of_betweenBursts h (.inr (.inl rfl)))
    · next h => exact State.act_hold_taken (State.hold?_of_betweenBursts h (.inr (.inr ⟨_, rfl⟩)))
    · next h => exact State.act_hold_taken (State.hold?_of_inBurst h (.inl rfl))
    · next h => exact State.act_hold_taken (State.hold?_of_inBurst h (.inr rfl))
    · next h => exact State.act_hold_taken (State.hold?_of_held h)
    · next h => exact State.act_hold_refused (State.hold?_of_refusing (.inl h))
    · next h => exact State.act_hold_refused (State.hold?_of_refusing (.inr (.inl h)))
    · next h => exact State.act_hold_refused (State.hold?_of_refusing (.inr (.inr ⟨_, _, h⟩)))
  · exact State.act_arm_refused (State.arm_of_not_atRest (Slot.atRest_iff.not.mpr hrest))
  · exact State.act_arm_refused (State.arm_of_no_leg (Slot.atRest_iff.mpr hrest) hfirst)
  · exact State.act_arm_refused (State.arm_of_portTaken (Slot.atRest_iff.mpr hrest) hfirst (State.portTaken_iff.mpr hheld))
  · exact State.act_arm_refused
      (State.arm_of_not_legCheck (Slot.atRest_iff.mpr hrest) hfirst (State.portTaken_iff.not.mpr hfree) hleg)
  · exact State.act_arm_taken
      (State.arm_eq_armed (Slot.atRest_iff.mpr hrest) hfirst (State.portTaken_iff.not.mpr hfree) hrec hleg)

end Sys2Proof
end

section
/-! # The taking of a slot event (O43)

An event meets the 32 entries with a point of the release before each and after the last (R111). Where no entry answers, only the 33
points are left. -/

namespace Sys2Proof.Machine

variable {s : State} {e : SlotEvent} {c n : Nat}

/-! ## A selection does not ask what the mover did before -/

theorem State.pop_setMover (s : State) (m : Mover) (top : Suspended) (rest : List Suspended) :
    (s.setMover m).pop top rest = s.pop top rest := by
  unfold State.pop
  rw [State.slot_setMover]
  split <;> rfl

theorem State.select_setMover (s : State) (m : Mover) : (s.setMover m).select = s.select := by
  cases hstack : s.arb.stack with
  | nil =>
    cases hbest : s.bestReady with
    | none => exact (State.select_eq_idle (s := s.setMover m) hstack hbest).trans (State.select_eq_idle hstack hbest).symm
    | some q =>
      exact (State.select_eq_grant_of_nil (s := s.setMover m) hstack hbest).trans
        (State.select_eq_grant_of_nil hstack hbest).symm
  | cons top rest =>
    by_cases hbelow : ∀ q, s.bestReady = some q →
        ¬ ((s.slot top.slot).setup.priority < (s.slot q).setup.priority ∧ (s.slot q).setup.preempt = true)
    · rw [State.select_eq_pop hstack hbelow, State.select_eq_pop (s := s.setMover m) hstack hbelow, State.pop_setMover]
    · push Not at hbelow
      obtain ⟨q, hbest, habove⟩ := hbelow
      obtain ⟨l, hready⟩ := State.bestReady_standing hbest
      rw [State.select_eq_grant hstack hbest habove, State.select_eq_grant (s := s.setMover m) hstack hbest habove,
        State.grant_setMover s m hready]

/-! ## A point of the release (R45, R84, R94) -/

theorem State.passPoint_of_not_releasing (h : ∀ c n, s.arb.mover ≠ .releasing c n) : s.passPoint = s := by
  unfold State.passPoint
  split
  · next c n hmover => exact absurd hmover (h c n)
  · rfl

theorem State.passPoint_of_releasing (h : s.arb.mover = .releasing c n) :
    s.passPoint =
      if n ≤ 1 then s.cancelWaiting.select
      else (if c ≤ 1 then s.cancelWaiting else s).setMover (.releasing (c - 1) (n - 1)) := by
  simp only [State.passPoint, h, State.release]

theorem State.cancelWaiting_of_no_cancel (h : ∀ x j, s.link.executing = some x → x.waits ≠ .cancel j) : s.cancelWaiting = s := by
  rcases State.cancelWaiting_cases (s := s) with ⟨x, j, hexec, hwaits, -⟩ | ⟨-, hself⟩
  · exact absurd hwaits (h x j hexec)
  · exact hself

theorem State.passPoint_of_no_cancel (h : s.arb.mover = .releasing c n)
    (hcancel : ∀ x j, s.link.executing = some x → x.waits ≠ .cancel j) :
    s.passPoint = if n ≤ 1 then s.select else s.setMover (.releasing (c - 1) (n - 1)) := by
  rw [State.passPoint_of_releasing h, State.cancelWaiting_of_no_cancel hcancel, ite_self]

/-- The points of a release with no cancel waiting: the selection acts at its own, and changes nothing at the later ones. -/
theorem State.passPoint_iterate (h : s.arb.mover = .releasing c n)
    (hcancel : ∀ x j, s.link.executing = some x → x.waits ≠ .cancel j) (m : Nat) :
    State.passPoint^[m + 1] s = if n ≤ m + 1 then s.select else s.setMover (.releasing (c - (m + 1)) (n - (m + 1))) := by
  induction m with
  | zero => exact State.passPoint_of_no_cancel h hcancel
  | succ m ih =>
    rw [Function.iterate_succ_apply', ih]
    by_cases hselected : n ≤ m + 1
    · rw [if_pos hselected, if_pos (by omega), State.passPoint_of_not_releasing State.select_not_releasing]
    · let t := s.setMover (.releasing (c - (m + 1)) (n - (m + 1)))
      have hpoint : t.passPoint = _ := State.passPoint_of_no_cancel (s := t) rfl hcancel
      have hturn : n - (m + 1) ≤ 1 ↔ n ≤ m + 1 + 1 := by omega
      rw [if_neg hselected, hpoint, State.select_setMover]
      simp only [hturn, Nat.sub_sub]
      rfl

/-! ## The scan, entry by entry (R111) -/

theorem Trigger.matchesEvent_iff {t : Trigger} :
    t.matchesEvent e = true ↔ t.enabled = true ∧ t.event = e.kind ∧ t.source = e.slot := by
  simp [Trigger.matchesEvent, and_assoc]

/-- The scan once it has met the first n entries, before the next point. -/
def State.scanned (s : State) (e : SlotEvent) (n : Nat) : State :=
  ((List.finRange 32).take n).foldl (fun t k => t.passPoint.fireEntry e k) s

theorem State.scanned_zero (s : State) (e : SlotEvent) : s.scanned e 0 = s := rfl

theorem State.scanned_succ (s : State) (e : SlotEvent) (k : TrigIx) :
    s.scanned e (k.val + 1) = (s.scanned e k.val).passPoint.fireEntry e k := by
  have hentry : (List.finRange 32)[k.val]? = some k := by simp
  rw [State.scanned, List.take_add_one, hentry, List.foldl_append]
  rfl

theorem State.scan_eq (s : State) (e : SlotEvent) : s.scan e = (s.scanned e 32).passPoint := by
  rw [State.scan, State.scanned, List.take_of_length_le (by simp)]

theorem State.scanned_of_no_match (h : ∀ k, ¬ (s.trigger k).matchesEvent e = true) (hn : n ≤ 32) :
    s.scanned e n = State.passPoint^[n] s ∧ (s.scanned e n).triggers = s.triggers := by
  induction n with
  | zero => exact ⟨rfl, rfl⟩
  | succ n ih =>
    obtain ⟨hpoints, htriggers⟩ := ih (by omega)
    let k : TrigIx := ⟨n, hn⟩
    have htable : (s.scanned e n).passPoint.triggers = s.triggers := by simp [htriggers]
    have hentry : (s.scanned e n).passPoint.trigger k = s.trigger k := congrArg (Vector.get · k) htable
    have hfire : s.scanned e (n + 1) = (s.scanned e n).passPoint :=
      (s.scanned_succ e k).trans (if_neg (by rw [hentry]; exact h k))
    rw [hfire, Function.iterate_succ_apply', ← hpoints]
    exact ⟨rfl, htable⟩

/-- An event that no entry answers leaves only the 33 points. -/
theorem State.scan_of_no_match (h : ∀ k, ¬ (s.trigger k).matchesEvent e = true) : s.scan e = State.passPoint^[33] s := by
  rw [State.scan_eq, (State.scanned_of_no_match h le_rfl).1, ← Function.iterate_succ_apply' State.passPoint]

theorem execTriggerEvent_of_nil (hrun : s.phase = .running) (hevents : s.events = []) : execTriggerEvent s = .next s := by
  simp only [execTriggerEvent, State.whenRunning, hrun, hevents, if_true]

theorem execTriggerEvent_of_cons {later : List SlotEvent} (hrun : s.phase = .running) (hevents : s.events = e :: later) :
    execTriggerEvent s = .next (State.scan { s with events := later } e) := by
  simp only [execTriggerEvent, State.whenRunning, hrun, hevents, if_true]

end Sys2Proof.Machine

namespace Sys2Proof

open Machine

/-- Settles O43: the states of the scan are those after each entry, and an event that no entry answers leaves the 33 points, which are
counted down by induction. -/
theorem triggerEventFiresInAscendingOrder : Obligations.TriggerEventFiresInAscendingOrder := by
  refine ⟨fun s hrun => ⟨execTriggerEvent_of_nil hrun, fun e later hevents => ?_⟩,
    fun u => ⟨State.passPoint_of_not_releasing, fun c n hmover => ?_⟩⟩
  · intro answers taken
    have hexec : exec .triggerEvent s = .next (taken.scan e) := execTriggerEvent_of_cons hrun hevents
    refine ⟨fun hnone => ?_, taken.scanned e, taken.scanned_zero e, hexec.trans (congrArg _ (taken.scan_eq e)), fun k => ?_⟩
    · rw [hexec, State.scan_of_no_match (s := taken) fun k => Trigger.matchesEvent_iff.not.mpr (hnone k)]
      refine ⟨fun hidle => ?_, fun c n hmover hcancel => ?_⟩
      · rw [Function.iterate_fixed (State.passPoint_of_not_releasing (s := taken) hidle)]
      · exact congrArg _ (State.passPoint_iterate (s := taken) hmover hcancel 32)
    · intro point
      have hnext : taken.scanned e (k.val + 1) = point.fireEntry e k := taken.scanned_succ e k
      exact ⟨fun hquiet => hnext.trans (if_neg (Trigger.matchesEvent_iff.not.mpr hquiet)),
        fun hanswers => hnext.trans (if_pos (Trigger.matchesEvent_iff.mpr hanswers))⟩
  · have hpoint := State.passPoint_of_releasing hmover
    refine ⟨fun hn => hpoint.trans (if_pos hn), fun hn hc => ?_, fun hn hc => ?_⟩
    · rw [hpoint, if_neg (by omega), if_pos hc]
      rfl
    · rw [hpoint, if_neg (by omega), if_neg (by omega)]
      rfl

end Sys2Proof
end

section
/-! # The stream ports: setup, word arrival and word take (O35, O36, O37)

The three rows come together in the signal of a risen request condition (R132): `State.next_signal_of_rise_iff` says once what it
does, whatever the rise was, and `State.signal_of_not_portInUse` that PORT-SETUP's signal meets no slot that it could make READY. -/

namespace Sys2Proof.Machine

variable {s t : State} {p : PortIx} {i : SlotIx} {q : Port} {w : Word} {was : Bool} {r : Request} {rest : List Request}

/-! ## Rows of a running part, and the counters -/

theorem State.whenRunning_of_running (h : s.phase = .running) (f : State → State) : s.whenRunning f = .next (f s) := by
  rw [State.whenRunning, if_pos h]

theorem State.whenRunning_of_not_running (h : s.phase ≠ .running) (f : State → State) : s.whenRunning f = .next s := by
  rw [State.whenRunning, if_neg h]

/-- A counter rises by 1 and stops at 65535, and one that stood above it would stay (R127, R129). -/
theorem bump_eq_min (n : Nat) : bump n = min (n + 1) (max n 65535) := by
  unfold bump Config.counterTop
  split <;> omega

/-! ## The bound slot and the signal (R25, R132) -/

theorem State.boundTo_of_boundSlot (h : s.boundSlot p = some i) : (s.slot i).boundTo p = true :=
  List.find?_some (p := fun i => (s.slot i).boundTo p) h

theorem State.boundSlot_of_unique (hi : (s.slot i).boundTo p = true) (hne : ∀ j, j ≠ i → (s.slot j).boundTo p = false) :
    s.boundSlot p = some i := by
  cases h : s.boundSlot p with
  | none => exact absurd hi (List.find?_eq_none.mp h i (List.mem_finRange i))
  | some j =>
    by_contra hj
    exact absurd (State.boundTo_of_boundSlot h) (by simp [hne j fun heq => hj (heq ▸ rfl)])

theorem State.boundSlot_eq_none (h : ∀ i, (s.slot i).boundTo p = false) : s.boundSlot p = none :=
  List.find?_eq_none.mpr fun i _ => by simp [h i]

/-- What a command that ends in a signal comes to, with the rise of the condition told in the port's own terms: without a rise the signal
does nothing, and with one the bound slot, if there is one, is evaluated (R132). -/
theorem State.next_signal_of_rise_iff {rise : Prop} (hrise : (was = false ∧ (t.port p).condition = true) ↔ rise)
    {o : Host.Outcome State Fault Refusal} (ho : o = .next (t.signal p was)) :
    (¬ rise → o = .next t) ∧
      (rise →
        (∀ i, (t.slot i).boundTo p = true → (∀ j, j ≠ i → (t.slot j).boundTo p = false) → o = .next (t.evaluate i)) ∧
          ((∀ i, (t.slot i).boundTo p = false) → o = .next t)) := by
  rw [ho, State.signal]
  refine ⟨fun h => by rw [if_neg (hrise.not.mpr h)], fun h => ⟨fun i hi hne => ?_, fun hnone => ?_⟩⟩
  · rw [if_pos (hrise.mpr h), State.boundSlot_of_unique hi hne]
  · rw [if_pos (hrise.mpr h), State.boundSlot_eq_none hnone]

theorem State.portInUse_iff : s.portInUse p = true ↔ ∃ i, (s.slot i).boundTo p = true ∧ (s.slot i).keepsPort = true := by
  simp [State.portInUse]

theorem Slot.keepsPort_of_armed {x : Slot} {l : LegIx} (h : x.standing = .inLeg l .armed) : x.keepsPort = true := by
  simp [Slot.keepsPort, h]

/-- A slot bound to a port that is not in use is DONE or FAULTED, where an evaluation has no effect (R37, R125). -/
theorem State.signal_of_not_portInUse (h : ¬ s.portInUse p = true) (was : Bool) : s.signal p was = s := by
  unfold State.signal
  split
  · split
    · next i hbound =>
      refine State.evaluate_of_not_armed fun l harmed => h (State.portInUse_iff.mpr ⟨i, ?_, Slot.keepsPort_of_armed harmed⟩)
      exact State.boundTo_of_boundSlot hbound
    · rfl
  · rfl

/-! ## WORD_ARRIVAL -/

/-- One more word raises the condition of an enabled inbound port exactly where it makes up the THRESHOLD (R131). -/
theorem Port.rise_of_arrival (hin : q.direction = .inward) (hen : q.enable = true) (w : Word) :
    (q.condition = false ∧ ({ q with fifo := q.fifo ++ [w] } : Port).condition = true) ↔ q.fifo.length + 1 = q.threshold := by
  have hbefore := Port.condition_inward hin
  have hafter := Port.condition_inward (p := { q with fifo := q.fifo ++ [w] }) hin
  rw [← Bool.not_eq_true, hbefore, hafter]
  simp only [hen, true_and, List.length_append, List.length_singleton]
  omega

theorem State.arrive_of_not_listening (h : (s.port p).direction = .outward ∨ (s.port p).enable = false) (w : Word) :
    s.arrive p w = s := by
  unfold State.arrive
  refine if_neg fun ⟨hin, hen⟩ => ?_
  rcases h with hout | hoff
  · cases hout.symm.trans hin
  · cases hoff.symm.trans hen

section
variable (hin : (s.port p).direction = .inward) (hen : (s.port p).enable = true)
include hin hen

theorem State.arrive_of_room (hroom : (s.port p).fifo.length < 32) (w : Word) :
    s.arrive p w = (s.updPort p fun x => { x with fifo := x.fifo ++ [w] }).signal p (s.port p).condition := by
  unfold State.arrive
  have hoccupancy : (s.port p).occupancy < Config.fifoCap := by simpa only [Port.occupancy, hin, Config.fifoCap] using hroom
  rw [if_pos ⟨hin, hen⟩, if_pos hoccupancy]

theorem State.arrive_of_full (hfull : 32 ≤ (s.port p).fifo.length) (w : Word) : s.arrive p w = s.overruns p := by
  unfold State.arrive
  have hoccupancy : ¬ (s.port p).occupancy < Config.fifoCap := by
    simpa only [Port.occupancy, hin, Config.fifoCap, Nat.not_lt] using hfull
  rw [if_pos ⟨hin, hen⟩, if_neg hoccupancy]

end

theorem State.overruns_eq (s : State) (p : PortIx) :
    s.overruns p =
      { s with
        ports := s.ports.set p
          { s.port p with overrun := true, overrunCount := min ((s.port p).overrunCount + 1) (max (s.port p).overrunCount 65535) }
        reports := if (s.port p).overrun then s.reports else s.reports.take (.portAlarm p .overrun) } := by
  rw [← bump_eq_min]
  unfold State.overruns
  dsimp only
  split <;> rfl

/-! ## WORD_TAKE -/

/-- One more place raises the condition of an enabled outbound port exactly where it makes up the THRESHOLD; the place of a committed
word that the peripheral takes is one (R36, R131). -/
theorem Port.rise_of_take {fifo : List Word} (hout : q.direction = .outward) (hen : q.enable = true) (hfifo : q.fifo = w :: fifo)
    (hstaged : q.staged ≤ fifo.length) (hroom : fifo.length < 32) (d : Option Word) :
    (q.condition = false ∧ ({ q with fifo := fifo, driven := d } : Port).condition = true) ↔ 32 - fifo.length = q.threshold := by
  have hbefore := Port.condition_outward hout
  have hafter := Port.condition_outward (p := { q with fifo := fifo, driven := d }) hout
  rw [← Bool.not_eq_true, hbefore, hafter, hfifo]
  simp only [hen, true_and, List.length_cons]
  omega

theorem State.takeWord_of_inward (hin : (s.port p).direction = .inward) : s.takeWord p = s := by
  simp [State.takeWord, hin]

theorem State.takeWord_of_disabled (hout : (s.port p).direction = .outward) (hoff : (s.port p).enable = false) :
    s.takeWord p = { s with ports := s.ports.set p { s.port p with driven := some 0 } } := by
  unfold State.takeWord
  rw [if_pos hout, if_neg (by simp [hoff])]
  rfl

section
variable (hout : (s.port p).direction = .outward) (hen : (s.port p).enable = true)
include hout hen

theorem State.takeWord_of_committed {fifo : List Word} (hfifo : (s.port p).fifo = w :: fifo)
    (hstaged : (s.port p).staged ≤ fifo.length) :
    s.takeWord p = (s.updPort p fun x => { x with fifo := fifo, driven := some w }).signal p (s.port p).condition := by
  unfold State.takeWord
  have hcommitted : 0 < (s.port p).committed := by
    rw [Port.committed_outward hout, hfifo, List.length_cons]
    omega
  rw [if_pos hout, if_pos hen, if_pos hcommitted]
  simp only [State.updPort, hfifo, List.drop_succ_cons, List.drop_zero, List.head?_cons]

theorem State.takeWord_of_none_committed (hnone : (s.port p).fifo.length ≤ (s.port p).staged) : s.takeWord p = s.underruns p := by
  unfold State.takeWord
  have hcommitted : ¬ 0 < (s.port p).committed := by
    rw [Port.committed_outward hout]
    omega
  rw [if_pos hout, if_pos hen, if_neg hcommitted]

end

theorem State.underruns_eq (s : State) (p : PortIx) :
    s.underruns p =
      { s with
        ports := s.ports.set p
          { s.port p with
            driven := some 0, underrun := true
            underrunCount := min ((s.port p).underrunCount + 1) (max (s.port p).underrunCount 65535) }
        reports := if (s.port p).underrun then s.reports else s.reports.take (.portAlarm p .underrun) } := by
  rw [← bump_eq_min]
  unfold State.underruns
  dsimp only
  split <;> rfl

/-! ## PORT_SETUP -/

theorem Direction.ofCode?_eq (v : Nat) :
    Direction.ofCode? v = if v ≤ 1 then some (if v = 0 then .inward else .outward) else none := by
  rcases v with _ | _ | v
  · rfl
  · rfl
  · simp [Direction.ofCode?, Direction.code]

/-- The bytes of a PORT-SETUP body (R201). -/
def portSetupBytes (n d th : Nat) (en : Bool) : List Byte :=
  leBytes 1 n ++ leBytes 1 d ++ leBytes 1 th ++ [if en then 0x01 else 0x00]

theorem portSetup_bodyRefusal? (n d th : Nat) (en : Bool) : bodyRefusal? .portSetup (portSetupBytes n d th en) = none :=
  bodyRefusal?_eq_none.mpr
    ⟨by simp [portSetupBytes, ReqKind.lengthOk],
      by cases en <;> simp [portSetupBytes, ReqKind.unusedClear, ReqKind.flagsByte?, byteAt]⟩

/-- The four fields of a PORT-SETUP body read back from its bytes. -/
theorem portSetupBytes_fields {n d th : Nat} (hn : n < 256) (hd : d < 256) (hth : th < 256) (en : Bool) :
    fieldAt (portSetupBytes n d th en) 0 1 = n ∧ fieldAt (portSetupBytes n d th en) 1 1 = d ∧
      fieldAt (portSetupBytes n d th en) 2 1 = th ∧ (byteAt (portSetupBytes n d th en) 3).getLsbD 0 = en := by
  refine ⟨?_, ?_, ?_, ?_⟩
  · simpa [portSetupBytes] using hn
  · simpa [portSetupBytes] using hd
  · simpa [portSetupBytes] using hth
  · cases en <;> simp [portSetupBytes, byteAt]

section
variable {d : Direction} (htakes : Takes s r rest) (hkind : r.kind = .portSetup) (hcheck : bodyRefusal? .portSetup r.body = none)
include htakes hkind hcheck

theorem execPortSetup_range (hp : index? 8 (fieldAt r.body 0 1) = none) :
    execPortSetup s = .next { s with link := replied s.link r rest .range [] } :=
  State.serveNow_of_takes (u := s.taken rest) (rep := Reply.bare .range) htakes hkind hcheck (by simp only [hp]) rfl

variable (hp : index? 8 (fieldAt r.body 0 1) = some p)
include hp

theorem execPortSetup_direction (hd : Direction.ofCode? (fieldAt r.body 1 1) = none) :
    execPortSetup s = .next { s with link := replied s.link r rest .field [] } :=
  State.serveNow_of_takes (u := s.taken rest) (rep := Reply.bare .field) htakes hkind hcheck (by simp only [hp, hd]) rfl

variable (hd : Direction.ofCode? (fieldAt r.body 1 1) = some d)
include hd

theorem execPortSetup_threshold (hth : ¬ (1 ≤ fieldAt r.body 2 1 ∧ fieldAt r.body 2 1 ≤ 32)) :
    execPortSetup s = .next { s with link := replied s.link r rest .field [] } :=
  State.serveNow_of_takes (u := s.taken rest) (rep := Reply.bare .field) htakes hkind hcheck
    (by simp only [hp, hd]; exact if_neg hth) rfl

variable (hth : 1 ≤ fieldAt r.body 2 1 ∧ fieldAt r.body 2 1 ≤ 32)
include hth

theorem execPortSetup_inUse (huse : s.portInUse p = true) :
    execPortSetup s = .next { s with link := replied s.link r rest .inUse [] } := by
  have huse : (s.taken rest).portInUse p = true := huse
  exact State.serveNow_of_takes (u := s.taken rest) (rep := Reply.bare .inUse) htakes hkind hcheck
    (by simp only [hp, hd, Config.fifoCap, if_pos hth, if_pos huse]) rfl

theorem execPortSetup_taken (huse : ¬ s.portInUse p = true) :
    execPortSetup s =
      .next
        { s with
          link := replied s.link r rest .ok []
          ports := s.ports.set p ((s.port p).setUp d (fieldAt r.body 2 1) ((byteAt r.body 3).getLsbD 0)) } := by
  have huse' : ¬ (s.taken rest).portInUse p = true := huse
  let u : State := (s.taken rest).updPort p fun x => x.setUp d (fieldAt r.body 2 1) ((byteAt r.body 3).getLsbD 0)
  have hsignal : u.signal p ((s.taken rest).port p).condition = u := State.signal_of_not_portInUse (s := u) huse _
  exact State.serveNow_of_takes (u := u) (rep := Reply.bare .ok) htakes hkind hcheck
    (by simp only [hp, hd, Config.fifoCap, if_pos hth, if_neg huse']; exact congrArg (·, Reply.bare .ok) hsignal) rfl

end

end Sys2Proof.Machine

namespace Sys2Proof

open Machine

/-- Settles O35: the checks of R125 in their order; the signal finds no slot that it could make READY. -/
theorem portSetupWritesTheSetup : Obligations.PortSetupWritesTheSetup := by
  intro s r rest n d th en htakes hkind hn hd hth hbody
  have hbody : r.body = portSetupBytes n d th en := hbody
  have hcheck : bodyRefusal? .portSetup r.body = none := hbody ▸ portSetup_bodyRefusal? n d th en
  obtain ⟨hport, hdirection, hthreshold, henable⟩ := hbody ▸ portSetupBytes_fields hn hd hth en
  rw [← hthreshold]
  show execPortSetup s = _
  split
  · next hlt =>
    have hp : index? 8 (fieldAt r.body 0 1) = some ⟨n, hlt⟩ := hport ▸ index?_of_lt hlt
    have hcode := (congrArg Direction.ofCode? hdirection).trans (Direction.ofCode?_eq d)
    dsimp only
    split
    · next hfields =>
      obtain ⟨hd, hth⟩ := hfields
      replace hcode := hcode.trans (if_pos hd)
      split
      · next huse => exact execPortSetup_inUse htakes hkind hcheck hp hcode hth (State.portInUse_iff.mpr huse)
      · next huse =>
        rw [execPortSetup_taken htakes hkind hcheck hp hcode hth (State.portInUse_iff.not.mpr huse), henable]
        by_cases hzero : d = 0
        · simp only [Port.setUp, if_pos hzero]
        · simp only [Port.setUp, if_neg hzero]
    · next hfields =>
      by_cases hd : d ≤ 1
      · exact execPortSetup_threshold htakes hkind hcheck hp (hcode.trans (if_pos hd)) fun hth => hfields ⟨hd, hth⟩
      · exact execPortSetup_direction htakes hkind hcheck hp (hcode.trans (if_neg hd))
  · next hlt => exact execPortSetup_range htakes hkind hcheck (hport ▸ index?_of_not_lt hlt)

/-- Settles O36: a word with room joins the FIFO and may raise the condition, and one without is an overrun. -/
theorem wordArrivalJoinsOrIsLost : Obligations.WordArrivalJoinsOrIsLost := by
  intro s p w
  refine ⟨fun hphase => State.whenRunning_of_not_running hphase _, fun hrun => ?_⟩
  have hexec : exec (.wordArrival p w) s = .next (s.arrive p w) := State.whenRunning_of_running hrun _
  rw [hexec]
  refine ⟨fun hdeaf => congrArg _ (State.arrive_of_not_listening hdeaf w), fun hin hen => ⟨fun hroom => ?_, fun hfull => ?_⟩⟩
  · have hrise := Port.rise_of_arrival hin hen w
    rw [← State.port_updPort_same s p fun x => { x with fifo := x.fifo ++ [w] }] at hrise
    exact State.next_signal_of_rise_iff hrise (congrArg _ (State.arrive_of_room hin hen hroom w))
  · rw [State.arrive_of_full hin hen hfull, State.overruns_eq]

/-- Settles O37: a committed word leaves the FIFO and may raise the condition, and without one the take is an underrun. -/
theorem wordTakeDrivesACommittedWord : Obligations.WordTakeDrivesACommittedWord := by
  intro s p
  refine ⟨fun hphase => State.whenRunning_of_not_running hphase _, fun hrun => ?_⟩
  have hexec : exec (.wordTake p) s = .next (s.takeWord p) := State.whenRunning_of_running hrun _
  rw [hexec]
  refine ⟨fun hin => congrArg _ (State.takeWord_of_inward hin), fun hout hoff => congrArg _ (State.takeWord_of_disabled hout hoff),
    fun hout hen => ⟨fun w fifo hfifo hstaged hroom => ?_, fun hnone => ?_⟩⟩
  · have hrise := Port.rise_of_take hout hen hfifo hstaged hroom (some w)
    rw [← State.port_updPort_same s p fun x => { x with fifo := fifo, driven := some w }] at hrise
    exact State.next_signal_of_rise_iff hrise (congrArg _ (State.takeWord_of_committed hout hen hfifo hstaged))
  · rw [State.takeWord_of_none_committed hout hen hnone, State.underruns_eq]

end Sys2Proof
end

section
/-! # The memory's form and the law of every port, through the operations (O55)

`State.KeepsStores s t` says both laws at once, each on its own: an operation that leaves the memory and the ports keeps them by its frame,
and the few that write a word or change a port keep them by the lemma of that write. -/

namespace Sys2Proof.Machine

variable {s t u : State} {i : SlotIx} {l : LegIx} {p : PortIx} {snap : Snapshot}

/-- What s has of the memory's canonical form and of the law of every port, t has too. -/
structure State.KeepsStores (s t : State) : Prop where
  mem : memWf s.mem = true → memWf t.mem = true
  ports : (∀ p, PortLaw (s.port p)) → ∀ p, PortLaw (t.port p)

theorem State.KeepsStores.trans (hst : s.KeepsStores t) (htu : t.KeepsStores u) : s.KeepsStores u :=
  ⟨fun h => htu.mem (hst.mem h), fun h => htu.ports (hst.ports h)⟩

/-- An operation that leaves the memory and the ports as they were. -/
theorem State.KeepsStores.of_eq (hmem : t.mem = s.mem) (hports : t.ports = s.ports) : s.KeepsStores t :=
  ⟨fun h => hmem ▸ h, fun h p => State.port_congr hports ▸ h p⟩

theorem State.KeepsStores.refl (s : State) : s.KeepsStores s := .of_eq rfl rfl

theorem State.OnlyLink.keepsStores (h : s.OnlyLink t) : s.KeepsStores t := by
  obtain ⟨k, rfl⟩ := h
  exact .of_eq rfl rfl

/-! ## A word, a port -/

theorem State.keepsStores_setWord (s : State) (a : Addr) (w : BufWord) : s.KeepsStores (s.setWord a w) :=
  ⟨fun h => State.memWf_setWord h a w, id⟩

theorem State.keepsStores_writeWords (s : State) (a : Addr) (ws : List Word) : s.KeepsStores (s.writeWords a ws) :=
  ⟨fun h => State.memWf_writeWords ws h a, fun h => by rw [State.writeWords_frame]; exact h⟩

theorem State.keepsStores_updPort {f : Port → Port} (hf : PortLaw (s.port p) → PortLaw (f (s.port p))) :
    s.KeepsStores (s.updPort p f) :=
  ⟨id, fun h q => by
    rw [State.port_updPort]
    split
    · exact hf (h p)
    · exact h q⟩

theorem State.keepsStores_signal (s : State) (p : PortIx) (was : Bool) : s.KeepsStores (s.signal p was) :=
  .of_eq (by simp) (by simp)

theorem State.keepsStores_rollback (s : State) (i : SlotIx) (l : LegIx) (snap : Snapshot) : s.KeepsStores (s.rollback i l snap) :=
  ⟨fun h => by simpa using h, fun h => State.portLaw_rollback h i l snap⟩

theorem State.keepsStores_commit (s : State) (i : SlotIx) (l : LegIx) (r : LegRecord) : s.KeepsStores (s.commit i l r) := by
  have hsettle : s.KeepsStores (s.settleCommit l) :=
    ⟨fun h => by simpa using h, fun h => State.portLaw_settle h (fun _ => Port.portLaw_committedWords) l⟩
  exact hsettle.trans (.of_eq (by simp) (by simp [State.commit]))

/-! ## Cancels, the release and the resets -/

theorem State.keepsStores_cancelSuspended (s : State) (i : SlotIx) (l : LegIx) : s.KeepsStores (s.cancelSuspended i l) := by
  unfold State.cancelSuspended
  cases s.stackSnapshot i with
  | some snap => exact (s.keepsStores_rollback i l snap).trans (.of_eq (by simp) (by simp))
  | none => exact .of_eq (by simp) (by simp)

theorem State.keepsStores_cancelAtOnce (s : State) (i : SlotIx) : s.KeepsStores (s.cancelAtOnce i) := by
  unfold State.cancelAtOnce
  split
  · exact .refl s
  · exact .of_eq (by simp) (by simp)
  · exact s.keepsStores_cancelSuspended i _
  · exact .of_eq (by simp) (by simp)

theorem State.keepsStores_cancelWaiting (s : State) : s.KeepsStores s.cancelWaiting := by
  rcases State.cancelWaiting_cases (s := s) with ⟨e, i, -, -, h⟩ | ⟨-, h⟩
  · rw [h]
    exact (s.keepsStores_cancelAtOnce i).trans (State.onlyLink_answer _ _ _).keepsStores
  · rw [h]
    exact .refl s

theorem State.keepsStores_release (s : State) : s.KeepsStores s.release :=
  s.keepsStores_cancelWaiting.trans (.of_eq (by simp [State.release]) (by simp [State.release]))

/-- A release that goes on, with its cancel made where its turn has come. -/
theorem State.keepsStores_release_stays (s : State) (now : Prop) [Decidable now] (m : Mover) :
    s.KeepsStores ((if now then s.cancelWaiting else s).setMover m) := by
  split
  · exact s.keepsStores_cancelWaiting.trans (.of_eq rfl rfl)
  · exact .of_eq rfl rfl

theorem State.keepsStores_releaseAt (s : State) (c n : Nat) : s.KeepsStores (s.releaseAt c n) := by
  unfold State.releaseAt
  split
  · exact s.keepsStores_release
  · exact s.keepsStores_release_stays _ _

theorem State.keepsStores_passPoint (s : State) : s.KeepsStores s.passPoint := by
  unfold State.passPoint
  split
  · split
    · exact s.keepsStores_release
    · exact s.keepsStores_release_stays _ _
  · exact .refl s

theorem State.keepsStores_engineReset (s : State) (q : Request) : s.KeepsStores (s.engineReset q) where
  mem h := by simpa using h
  ports h p := by
    have hport : (s.engineReset q).port p = (s.rollbackAll.port p).engineReset := by
      simp [State.engineReset, State.resetBlocks, State.port]
    rw [hport]
    exact Port.portLaw_engineReset (State.portLaw_rollbackAll h p)

theorem State.keepsStores_resumeFaulted {cause : FaultCause} (h : s.resumeFaulted i l cause = .done t) : s.KeepsStores t := by
  unfold State.resumeFaulted at h
  repeat' split at h
  all_goals cases h
  all_goals exact .of_eq (by simp) (by simp)

/-! ## The element -/

theorem State.keepsStores_endBurst (s : State) (c n : Nat) : s.KeepsStores (s.endBurst c n) := by
  unfold State.endBurst
  split
  · split
    · exact s.keepsStores_engineReset _
    · exact s.keepsStores_releaseAt c n
  · exact s.keepsStores_releaseAt c n

theorem State.keepsStores_elementFails (s : State) (c n : Nat) (i : SlotIx) (l : LegIx) (snap : Snapshot) (cause : FaultCause) :
    s.KeepsStores (s.elementFails c n i l snap cause) := by
  have hfaulted := (s.keepsStores_rollback i l snap).trans
    (.of_eq (t := ((s.rollback i l snap).setMover (.releasing 0 0)).enterFaulted i l cause (s.slot i).element) (by simp) (by simp))
  exact hfaulted.trans (State.keepsStores_endBurst _ c n)

theorem State.keepsStores_cancelActive (s : State) (n : Nat) (i : SlotIx) (l : LegIx) (snap : Snapshot) (q : Request) :
    s.KeepsStores (s.cancelActive n i l snap q) := by
  have hidle := (s.keepsStores_rollback i l snap).trans
    (.of_eq (t := ((s.rollback i l snap).setMover (.releasing 0 0)).idleFrom i l (s.slot i).element) (by simp) (by simp))
  exact (hidle.trans (State.onlyLink_answer _ q _).keepsStores).trans (State.keepsStores_releaseAt _ 0 n)

theorem State.keepsStores_midBurst (s : State) (n : Nat) (i : SlotIx) (l : LegIx) (snap : Snapshot) :
    s.KeepsStores (s.midBurst n i l snap) := by
  have hcheck : s.KeepsStores (s.preemptionCheck i l snap) := .of_eq (by simp) (by simp)
  unfold State.midBurst
  split
  · split
    · split
      · exact s.keepsStores_cancelActive n i l snap _
      · exact hcheck
    · exact s.keepsStores_engineReset _
    · exact hcheck
  · exact hcheck

theorem State.keepsStores_elementCompletes (s : State) (c n : Nat) (i : SlotIx) (l : LegIx) (r : LegRecord) (snap : Snapshot) :
    s.KeepsStores (s.elementCompletes c n i l r snap) := by
  have hrise : s.KeepsStores (s.updSlot i fun x => { x with element := x.element + 1 }) := .of_eq rfl rfl
  unfold State.elementCompletes
  split
  · exact hrise.trans (State.keepsStores_midBurst _ n i l snap)
  · exact (s.keepsStores_commit i l r).trans (State.keepsStores_endBurst _ c n)

/-- A PORT read finds a word that has not been read, so TENTATIVE stays within the FIFO (R54, R128). -/
theorem Port.portLaw_read {q : Port} {w : Word} (hword : q.nextTentative? = some w) (h : PortLaw q) :
    PortLaw { q with tentative := q.tentative + 1 } := by
  obtain ⟨hthreshold, hthreshold', hlength, hover, hunder, hin, -⟩ := h
  unfold Port.nextTentative? at hword
  split at hword
  · next hdirection =>
    obtain ⟨hlt, -⟩ := List.getElem?_eq_some_iff.mp hword
    exact ⟨hthreshold, hthreshold', hlength, hover, hunder, fun _ => ⟨(hin hdirection).1, hlt⟩,
      fun hout => by simp [hdirection] at hout⟩
  · cases hword

/-- A PORT write finds a free place, so the FIFO stays within its 32 words (R55, R130). -/
theorem Port.portLaw_write {q : Port} (hplace : q.hasPlace = true) (h : PortLaw q) (w : Word) :
    PortLaw { q with fifo := q.fifo ++ [w], staged := q.staged + 1 } := by
  obtain ⟨hthreshold, hthreshold', -, hover, hunder, -, hout⟩ := h
  simp only [Port.hasPlace, Bool.and_eq_true, decide_eq_true_eq] at hplace
  obtain ⟨hdirection, hroom⟩ := hplace
  obtain ⟨htentative, hstaged⟩ := hout hdirection
  have hlength : (q.fifo ++ [w]).length = q.fifo.length + 1 := by simp
  exact ⟨hthreshold, hthreshold', hlength ▸ hroom, hover, hunder, fun hin => by simp [hdirection] at hin,
    fun _ => ⟨htentative, hlength ▸ Nat.succ_le_succ hstaged⟩⟩

theorem State.keepsStores_elementRead {r : LegRecord} {x : Slot} {w : Word} (h : s.elementRead r x = .word w t) :
    s.KeepsStores t := by
  unfold State.elementRead at h
  split at h
  · split at h <;> cases h
    exact .refl s
  · split at h
    · next hword =>
      cases h
      exact State.keepsStores_updPort (Port.portLaw_read hword)
    · cases h
  · cases h
    exact .refl s

theorem State.keepsStores_elementWrite {r : LegRecord} {x : Slot} {w : Word} (h : s.elementWrite r x w = .ok t) :
    s.KeepsStores t := by
  unfold State.elementWrite at h
  split at h
  · cases h
    exact s.keepsStores_setWord _ _
  · split at h
    · next hplace =>
      cases h
      exact State.keepsStores_updPort fun hlaw => Port.portLaw_write hplace hlaw w
    · cases h

theorem State.keepsStores_elementSteps {fences : Vector Fence 8} {r : LegRecord} (h : s.elementSteps fences i r = .moved t) :
    s.KeepsStores t := by
  unfold State.elementSteps at h
  split at h
  · cases h
  · split at h
    · cases h
    · split at h
      · cases h
      · cases h
      · next hread =>
        split at h
        · cases h
        · next hwrite =>
          cases h
          exact (State.keepsStores_elementRead hread).trans ((State.keepsStores_elementWrite hwrite).trans (.of_eq rfl rfl))

theorem State.keepsStores_giveBackGrant (s : State) (r : LegRecord) : s.KeepsStores (s.giveBackGrant r) := by
  unfold State.giveBackGrant
  split
  · exact .of_eq rfl rfl
  · exact .refl s

theorem State.keepsStores_runElement {order : ElementOrder} {r : LegRecord} (h : s.runElement order i l r snap = .next t) :
    s.KeepsStores t := by
  unfold State.runElement at h
  split at h <;> cases h
  · next hsteps =>
    exact ((State.keepsStores_elementSteps hsteps).trans (State.keepsStores_giveBackGrant _ r)).trans
      (State.keepsStores_elementCompletes _ _ _ i l r snap)
  · exact (s.keepsStores_giveBackGrant r).trans (State.keepsStores_elementFails _ _ _ i l snap _)

theorem keepsStores_execElement {order : ElementOrder} (h : execElement order s = .next u) : s.KeepsStores u := by
  unfold execElement at h
  split at h
  · split at h
    · split at h
      · split at h
        · split at h
          · cases h
            exact .refl s
          · exact State.keepsStores_runElement h
        · cases h
      · cases h
    · cases h
      exact s.keepsStores_release
    · cases h
      exact .refl s
  · cases h
    exact .refl s

/-! ## The trigger table and the host block -/

theorem State.keepsStores_scan (s : State) (e : SlotEvent) : s.KeepsStores (s.scan e) := by
  unfold State.scan
  generalize List.finRange 32 = ks
  induction ks generalizing s with
  | nil => exact s.keepsStores_passPoint
  | cons k ks ih =>
    obtain ⟨-, -, hmem, -, hports, -⟩ := State.fireEntry_frame (s := s.passPoint) e k
    exact (s.keepsStores_passPoint.trans (.of_eq hmem hports)).trans (ih _)

theorem State.keepsStores_runBlock (s : State) (q : Request) : s.KeepsStores (s.runBlock q) := by
  refine ⟨fun h => ?_, fun h p => State.port_congr (s.ports_runBlock q) ▸ h p⟩
  have hread : (s.runReadBlock q).mem = s.mem := by
    unfold State.runReadBlock
    dsimp only
    split
    · rfl
    · split <;> rfl
  unfold State.runBlock
  split
  · unfold State.runWriteBlock
    split
    · exact h
    · exact State.memWf_writeWords _ h _
  · exact hread ▸ h

end Sys2Proof.Machine
end

section
/-! # The memory's form, the law of every port and the law of the leg store are kept by every step (O55)

The records change by the moves of a view (`View.legal_move`) and by LEG_LOAD, which alone writes a record it has checked. -/

namespace Sys2Proof.Machine

variable {s t u : State} {k : ReqKind} {p : PortIx}

/-! ## The law of the leg store (R15) -/

theorem State.legLaw_iff : LegLaw s ↔ ∀ l r, s.view.record l = some r → r.Legal :=
  forall_congr' fun _ => forall_congr' fun _ => imp_congr_right fun _ =>
    ⟨fun ⟨hburst, hburst', hcount, hcount', hmark, hends, hexpect⟩ => ⟨hburst, hburst', hcount, hcount', hmark, hends, hexpect⟩,
      fun ⟨hburst, hburst', hcount, hcount', hmark, hends, hexpect⟩ => ⟨hburst, hburst', hcount, hcount', hmark, hends, hexpect⟩⟩

theorem State.Moves.legLaw (h : s.Moves t) (hs : LegLaw s) : LegLaw t :=
  State.legLaw_iff.mpr
    (View.Moves.keeps (P := fun v => ∀ l r, v.record l = some r → r.Legal) View.legal_move h (State.legLaw_iff.mp hs))

theorem State.legLaw_writeRecord {l : LegIx} {r : LegRecord} (hs : LegLaw s) (hr : r.Legal) :
    LegLaw (s.updLeg l fun e => { e with record := some r }) := by
  rw [State.legLaw_iff, State.view_writeRecord]
  intro m q hq
  dsimp only at hq
  rw [Function.update_apply] at hq
  split at hq
  · cases hq
    exact hr
  · exact State.legLaw_iff.mp hs m q hq

theorem legLaw_execPowerReset (h : execPowerReset s = .next u) : LegLaw u := by
  cases h
  intro l r hr
  simp [State.leg, State.reset, LegEntry.initial] at hr

theorem moves_execResetRelease {straps : BitVec 2} (h : execResetRelease straps s = .next u) : s.Moves u := by
  cases h
  exact .of_view_eq (by split <;> rfl)

theorem moves_execStartUpEnd (h : execStartUpEnd s = .next u) : s.Moves u := by
  cases h
  exact .of_view_eq (by split <;> rfl)

theorem legLaw_execLegLoad (h : execLegLoad s = .next u) (hs : LegLaw s) : LegLaw u := by
  refine State.serveNow_keeps (fun hlink => hlink.moves.legLaw) (fun b {t} ht => ?_) hs h
  split
  · exact ht
  · split
    · exact ht
    · next hchecked =>
      split
      · exact State.legLaw_writeRecord ht (RawLeg.legal_of_checked? hchecked)
      · exact ht

/-! ## The kinds of row -/

theorem keepsStores_serve {owner : Request → State → Host.Outcome State Fault Refusal}
    (howner : ∀ {r t u}, owner r t = .next u → t.KeepsStores u) (h : s.serve k owner = .next u) : s.KeepsStores u :=
  State.serve_keeps (P := s.KeepsStores) (fun hlink hs => hs.trans hlink.keepsStores) (fun hs hu => hs.trans (howner hu)) (.refl s) h

theorem keepsStores_serveNow {owner : List Byte → State → State × Reply} (howner : ∀ b (t : State), t.KeepsStores (owner b t).1)
    (h : s.serveNow k owner = .next u) : s.KeepsStores u :=
  State.serveNow_keeps (P := s.KeepsStores) (fun hlink hs => hs.trans hlink.keepsStores) (fun b t hs => hs.trans (howner b t))
    (.refl s) h

theorem keepsStores_whenRunning {f : State → State} (hf : ∀ t : State, t.KeepsStores (f t)) (h : s.whenRunning f = .next u) :
    s.KeepsStores u := State.whenRunning_keeps (P := s.KeepsStores) (fun hs => hs.trans (hf _)) (.refl s) h

/-- A request row whose owner leaves the memory and the ports. -/
theorem keepsStores_unseenRow {owner : List Byte → State → State × Reply}
    (howner : ∀ b (t : State), (owner b t).1.mem = t.mem ∧ (owner b t).1.ports = t.ports) (h : s.serveNow k owner = .next u) :
    s.KeepsStores u := keepsStores_serveNow (fun b t => .of_eq (howner b t).1 (howner b t).2) h

/-- A slot request answers RANGE and changes nothing, or acts on its slot (R22). -/
theorem keepsStores_slotRow {f : List Byte → State → SlotIx → State × Reply} (hf : ∀ b (t : State) i, t.KeepsStores (f b t i).1)
    (h : s.serveNow k (fun b t => withSlot b t (f b t)) = .next u) : s.KeepsStores u := by
  refine keepsStores_serveNow (fun b t => ?_) h
  unfold withSlot
  split
  · exact .refl t
  · exact hf b t _

/-- An owner's answer follows what the owner has done. -/
theorem State.KeepsStores.answered {r : Request} {rep : Reply} (hs : s.KeepsStores t)
    (h : (Host.Outcome.next (t.answer r rep) : Host.Outcome State Fault Refusal) = .next u) : s.KeepsStores u := by
  cases h
  exact hs.trans (t.onlyLink_answer r rep).keepsStores

/-! ## The slot table -/

theorem keepsStores_execSlotSetup (h : execSlotSetup s = .next u) : s.KeepsStores u := by
  refine keepsStores_slotRow (fun b t i => ?_) h
  split
  · exact .refl t
  · split
    · split
      · exact .refl t
      · exact .of_eq rfl rfl
    · exact .refl t

theorem keepsStores_execSlotArm (h : execSlotArm s = .next u) : s.KeepsStores u := by
  refine keepsStores_slotRow (fun b t i => ?_) h
  split
  · next harm =>
    obtain ⟨-, -, hmem, -, hports, -⟩ := State.arm_frame harm
    exact .of_eq hmem hports
  · exact .refl t

theorem keepsStores_execSlotStart (h : execSlotStart s = .next u) : s.KeepsStores u := by
  refine keepsStores_slotRow (fun b t i => ?_) h
  split
  · split
    · next hadd =>
      obtain ⟨-, -, -, hmem, -, hports, -⟩ := State.addCredits_frame hadd
      exact .of_eq hmem hports
    · exact .refl t
  · exact .refl t

theorem keepsStores_execSlotHold (h : execSlotHold s = .next u) : s.KeepsStores u := by
  refine keepsStores_slotRow (fun b t i => ?_) h
  split
  · next hhold =>
    obtain ⟨-, -, -, -, hmem, -, -, hports, -⟩ := State.hold?_frame hhold
    exact .of_eq hmem hports
  · exact .refl t

theorem keepsStores_execSlotResume (h : execSlotResume s = .next u) : s.KeepsStores u := by
  refine keepsStores_serve (fun {r t u} hu => ?_) h
  have hrefl := State.KeepsStores.refl t
  have hwithdraw (i : SlotIx) : t.KeepsStores (t.updSlot i fun x => { x with holdRequested := false }) := .of_eq rfl rfl
  split at hu
  · exact hrefl.answered hu
  · split at hu
    · next i _ _ l _ =>
      have hrearm : t.KeepsStores ((t.setLegState i l .armed).evaluate i) := .of_eq (by simp) (by simp)
      exact hrearm.answered hu
    · split at hu
      · exact (hwithdraw _).answered hu
      · exact hrefl.answered hu
    · split at hu
      · exact (hwithdraw _).answered hu
      · exact hrefl.answered hu
    · split at hu
      · next hresumed => exact (State.keepsStores_resumeFaulted hresumed).answered hu
      · exact hrefl.answered hu
      · cases hu
    · exact hrefl.answered hu

theorem keepsStores_execSlotCancel (h : execSlotCancel s = .next u) : s.KeepsStores u := by
  refine keepsStores_serve (fun {r t u} hu => ?_) h
  have hrefl := State.KeepsStores.refl t
  split at hu
  · exact hrefl.answered hu
  · split at hu
    · exact hrefl.answered hu
    · cases hu
      exact .of_eq rfl rfl
    · exact (t.keepsStores_cancelAtOnce _).answered hu

/-! ## The buffer and the resets -/

theorem State.keepsStores_startBlock (s : State) (r : Request) (o : AskOrder) : s.KeepsStores (s.startBlock r o) :=
  .of_eq (by simp [State.startBlock]) (by simp [State.startBlock])

theorem keepsStores_execBufWrite {o : AskOrder} (h : execBufWrite o s = .next u) : s.KeepsStores u := by
  refine keepsStores_serve (fun {r t u} hu => ?_) h
  split at hu
  · cases hu
    exact t.keepsStores_startBlock r o
  · exact (State.KeepsStores.refl t).answered hu

theorem keepsStores_execBufRead {o : AskOrder} (h : execBufRead o s = .next u) : s.KeepsStores u := by
  refine keepsStores_serve (fun {r t u} hu => ?_) h
  split at hu
  · split at hu
    · cases hu
      exact t.keepsStores_startBlock r o
    · exact (State.KeepsStores.refl t).answered hu
  · exact (State.KeepsStores.refl t).answered hu

theorem keepsStores_execHostBlockGrant (h : execHostBlockGrant s = .next u) : s.KeepsStores u := by
  refine keepsStores_whenRunning (fun t => ?_) h
  split
  · split
    · exact (t.keepsStores_runBlock _).trans (.of_eq rfl rfl)
    · exact .refl t
  · exact .refl t

theorem keepsStores_execFenceSet (h : execFenceSet s = .next u) : s.KeepsStores u := by
  refine keepsStores_serveNow (fun b t => ?_) h
  split
  · exact .refl t
  · split
    · exact .refl t
    · exact .of_eq (by simp) (by simp)

theorem keepsStores_execEngineReset (h : execEngineReset s = .next u) : s.KeepsStores u := by
  refine keepsStores_serve (fun {r t u} hu => ?_) h
  split at hu <;> cases hu
  · exact .of_eq rfl rfl
  · exact t.keepsStores_engineReset r

theorem keepsStores_execPowerReset (h : execPowerReset s = .next u) : s.KeepsStores u := by
  cases h
  refine ⟨fun _ => reset_memWf, fun _ p => ?_⟩
  have hport : State.reset.port p = Port.initial := by simp [State.reset, State.port]
  show PortLaw (State.reset.port p)
  rw [hport]
  decide

theorem keepsStores_execResetRelease {straps : BitVec 2} (h : execResetRelease straps s = .next u) : s.KeepsStores u := by
  cases h
  split <;> exact .of_eq rfl rfl

theorem keepsStores_execStartUpEnd (h : execStartUpEnd s = .next u) : s.KeepsStores u := by
  cases h
  split
  · exact ⟨fun hmem => memWf_memZero hmem _ _, id⟩
  · exact .refl s

theorem keepsStores_execUpset {x : Upset} (h : execUpset x s = .next u) : s.KeepsStores u := by
  unfold execUpset at h
  split at h <;> cases h
  · next n _ =>
    have hreaches : s.KeepsStores (s.startUpReaches n x.written) := ⟨fun hmem => memWf_memZero hmem _ _, id⟩
    exact hreaches.trans (State.keepsStores_setWord _ _ _)
  · exact s.keepsStores_setWord _ _

/-! ## The ports -/

theorem keepsStores_execPortSetup (h : execPortSetup s = .next u) : s.KeepsStores u := by
  refine keepsStores_serveNow (fun b t => ?_) h
  split
  · exact .refl t
  · split
    · exact .refl t
    · split
      · next hthreshold =>
        split
        · exact .refl t
        · exact (State.keepsStores_updPort fun hlaw => Port.portLaw_setUp hlaw hthreshold _ _).trans (State.keepsStores_signal _ _ _)
      · exact .refl t

theorem keepsStores_execPortQuery (h : execPortQuery s = .next u) : s.KeepsStores u := by
  refine keepsStores_serveNow (fun b t => ?_) h
  split
  · exact .refl t
  · dsimp only
    split
    · exact State.keepsStores_updPort (Port.keeps_alarmsCleared _).law
    · exact .refl t

/-- A lost word and a missing one change the alarms of their port, and may send a report. -/
theorem State.keepsStores_alarm {f : Port → Port} (hk : (s.port p).Keeps (f (s.port p))) (quiet : Bool) (b : ReportBody) :
    s.KeepsStores (if quiet then s.updPort p f else (s.updPort p f).report b) := by
  have hport : s.KeepsStores (s.updPort p f) := State.keepsStores_updPort hk.law
  split
  · exact hport
  · exact hport.trans (.of_eq rfl rfl)

theorem State.keepsStores_arrive (s : State) (p : PortIx) (w : Word) : s.KeepsStores (s.arrive p w) := by
  unfold State.arrive
  split
  · next hin =>
    split
    · next hroom =>
      exact (State.keepsStores_updPort (Port.keeps_arrival hin.1 hroom w).law).trans (State.keepsStores_signal _ _ _)
    · exact State.keepsStores_alarm (Port.keeps_overrun _) _ _
  · exact .refl s

theorem State.keepsStores_takeWord (s : State) (p : PortIx) : s.KeepsStores (s.takeWord p) := by
  unfold State.takeWord
  split
  · next hout =>
    split
    · split
      · next hword => exact (State.keepsStores_updPort (Port.keeps_take hout hword _).law).trans (State.keepsStores_signal _ _ _)
      · exact State.keepsStores_alarm (Port.keeps_underrun _) _ _
    · exact State.keepsStores_updPort (Port.keeps_driven _ _).law
  · exact .refl s

/-! ## The triggers, the line, the transmitter and time -/

theorem keepsStores_execTriggerEvent (h : execTriggerEvent s = .next u) : s.KeepsStores u := by
  refine keepsStores_whenRunning (fun t => ?_) h
  split
  · exact .refl t
  · next e rest _ =>
    have htaken : t.KeepsStores { t with events := rest } := .of_eq rfl rfl
    exact htaken.trans (State.keepsStores_scan _ e)

theorem State.keepsStores_paceExpires (s : State) (i : SlotIx) : s.KeepsStores (s.paceExpires i) := by
  unfold State.paceExpires
  split
  · exact .of_eq (by simp) (by simp)
  · exact .refl s

/-- A receiver row that acts only in the receiver's state it names. -/
theorem keepsStores_receiverRow {f : State → State} {when : State → Prop} [DecidablePred when] (hf : ∀ t : State, t.OnlyLink (f t))
    (h : s.whenRunning (fun t => if when t then f t else t) = .next u) : s.KeepsStores u := by
  refine keepsStores_whenRunning (fun t => ?_) h
  split
  · exact (hf t).keepsStores
  · exact .refl t

theorem State.keepsStores_choose (s : State) : s.KeepsStores s.choose := by
  unfold State.choose
  split
  · exact .of_eq rfl rfl
  · split <;> exact .of_eq rfl rfl

theorem keepsStores_execFrameSent (h : execFrameSent s = .next u) : s.KeepsStores u := by
  refine keepsStores_whenRunning (fun t => ?_) h
  split
  · exact (t.onlyLink_updLink _).keepsStores.trans (State.keepsStores_choose _)
  · exact .refl t

/-! ## The rows that touch neither -/

theorem keepsStores_execLegLoad (h : execLegLoad s = .next u) : s.KeepsStores u := by
  refine keepsStores_unseenRow (fun b t => ?_) h
  repeat' split
  all_goals exact ⟨rfl, rfl⟩

theorem keepsStores_execLegLink (h : execLegLink s = .next u) : s.KeepsStores u := by
  refine keepsStores_unseenRow (fun b t => ?_) h
  repeat' split
  all_goals exact ⟨rfl, rfl⟩

theorem keepsStores_execTrigSet (h : execTrigSet s = .next u) : s.KeepsStores u := by
  refine keepsStores_unseenRow (fun b t => ?_) h
  repeat' split
  all_goals exact ⟨rfl, rfl⟩

theorem keepsStores_execLegRead (h : execLegRead s = .next u) : s.KeepsStores u :=
  keepsStores_unseenRow (fun b t => by split <;> exact ⟨rfl, rfl⟩) h

theorem keepsStores_execTrigRead (h : execTrigRead s = .next u) : s.KeepsStores u :=
  keepsStores_unseenRow (fun b t => by split <;> exact ⟨rfl, rfl⟩) h

theorem keepsStores_execFenceRead (h : execFenceRead s = .next u) : s.KeepsStores u :=
  keepsStores_unseenRow (fun b t => by split <;> exact ⟨rfl, rfl⟩) h

theorem keepsStores_execSlotQuery (h : execSlotQuery s = .next u) : s.KeepsStores u :=
  keepsStores_slotRow (fun _ t _ => .refl t) h

theorem keepsStores_execReportAck (h : execReportAck s = .next u) : s.KeepsStores u :=
  keepsStores_unseenRow (fun b t => by split <;> exact ⟨rfl, rfl⟩) h

theorem keepsStores_execReportReplay (h : execReportReplay s = .next u) : s.KeepsStores u :=
  keepsStores_unseenRow (fun b t => by split <;> exact ⟨rfl, rfl⟩) h

theorem keepsStores_execReportGate (h : execReportGate s = .next u) : s.KeepsStores u :=
  keepsStores_unseenRow (fun _ _ => ⟨rfl, rfl⟩) h

theorem keepsStores_execHello (h : execHello s = .next u) : s.KeepsStores u :=
  keepsStores_unseenRow (fun _ _ => ⟨rfl, rfl⟩) h

theorem keepsStores_execLinkStatus (h : execLinkStatus s = .next u) : s.KeepsStores u :=
  keepsStores_unseenRow (fun b t => by dsimp only; split <;> exact ⟨rfl, rfl⟩) h

theorem keepsStores_execFrameReceived {b : Byte} (h : execFrameReceived b s = .next u) : s.KeepsStores u :=
  keepsStores_receiverRow (fun t => t.onlyLink_deliverUnlessBreak b) h

theorem keepsStores_execLengthError {b : Byte} (h : execLengthError b s = .next u) : s.KeepsStores u :=
  keepsStores_receiverRow (fun t => t.onlyLink_deliverUnlessBreak b) h

theorem keepsStores_execGapTimeout (h : execGapTimeout s = .next u) : s.KeepsStores u :=
  keepsStores_whenRunning (fun t => by split <;> exact .of_eq rfl rfl) h

theorem keepsStores_execLineBreak (h : execLineBreak s = .next u) : s.KeepsStores u :=
  keepsStores_whenRunning (fun t => by split <;> exact .of_eq rfl rfl) h

theorem keepsStores_execTransmitReply (h : execTransmitReply s = .next u) : s.KeepsStores u :=
  keepsStores_whenRunning (fun t => by split <;> exact .of_eq rfl rfl) h

theorem keepsStores_execTransmitReport (h : execTransmitReport s = .next u) : s.KeepsStores u :=
  keepsStores_whenRunning (fun t => by split <;> exact .of_eq rfl rfl) h

/-! ## Every command and every step -/

/-- The three laws, each on its own. -/
structure State.KeepsLaws (s t : State) : Prop extends State.KeepsStores s t where
  legs : LegLaw s → LegLaw t

/-- A row that changes the records by the moves of the view alone. -/
theorem State.KeepsStores.withMoves (h : s.KeepsStores t) (hmoves : s.Moves t) : s.KeepsLaws t := ⟨h, hmoves.legLaw⟩

theorem exec_keepsLaws {c : Instr} (h : exec c s = .next u) : s.KeepsLaws u := by
  cases c with
  | powerReset => exact ⟨keepsStores_execPowerReset h, fun _ => legLaw_execPowerReset h⟩
  | resetRelease straps => exact (keepsStores_execResetRelease h).withMoves (moves_execResetRelease h)
  | startUpEnd => exact (keepsStores_execStartUpEnd h).withMoves (moves_execStartUpEnd h)
  | upset x => exact (keepsStores_execUpset h).withMoves (moves_execUpset h)
  | frameReceived b => exact (keepsStores_execFrameReceived h).withMoves (moves_execFrameReceived h)
  | lengthError b => exact (keepsStores_execLengthError h).withMoves (moves_execLengthError h)
  | byteDelivered b =>
    exact (keepsStores_whenRunning (fun t => (t.onlyLink_deliverUnlessBreak b).keepsStores) h).withMoves (moves_execByteDelivered h)
  | gapTimeout => exact (keepsStores_execGapTimeout h).withMoves (moves_execGapTimeout h)
  | lineBreak => exact (keepsStores_execLineBreak h).withMoves (moves_execLineBreak h)
  | lineHighAfterBreak =>
    exact (keepsStores_whenRunning (fun t => (t.onlyLink_updLink _).keepsStores) h).withMoves (moves_execLineHighAfterBreak h)
  | transmitReply => exact (keepsStores_execTransmitReply h).withMoves (moves_execTransmitReply h)
  | transmitReport => exact (keepsStores_execTransmitReport h).withMoves (moves_execTransmitReport h)
  | frameSent => exact (keepsStores_execFrameSent h).withMoves (moves_execFrameSent h)
  | hello => exact (keepsStores_execHello h).withMoves (moves_execHello h)
  | linkStatus => exact (keepsStores_execLinkStatus h).withMoves (moves_execLinkStatus h)
  | engineReset => exact (keepsStores_execEngineReset h).withMoves (moves_execEngineReset h)
  | bufWrite o => exact (keepsStores_execBufWrite h).withMoves (moves_execBufWrite h)
  | bufRead o => exact (keepsStores_execBufRead h).withMoves (moves_execBufRead h)
  | hostBlockGrant => exact (keepsStores_execHostBlockGrant h).withMoves (moves_execHostBlockGrant h)
  | fenceSet => exact (keepsStores_execFenceSet h).withMoves (moves_execFenceSet h)
  | fenceRead => exact (keepsStores_execFenceRead h).withMoves (moves_execFenceRead h)
  | legLoad => exact ⟨keepsStores_execLegLoad h, legLaw_execLegLoad h⟩
  | legRead => exact (keepsStores_execLegRead h).withMoves (moves_execLegRead h)
  | legLink => exact (keepsStores_execLegLink h).withMoves (moves_execLegLink h)
  | slotSetup => exact (keepsStores_execSlotSetup h).withMoves (moves_execSlotSetup h)
  | slotArm => exact (keepsStores_execSlotArm h).withMoves (moves_execSlotArm h)
  | slotStart => exact (keepsStores_execSlotStart h).withMoves (moves_execSlotStart h)
  | slotHold => exact (keepsStores_execSlotHold h).withMoves (moves_execSlotHold h)
  | slotResume => exact (keepsStores_execSlotResume h).withMoves (moves_execSlotResume h)
  | slotCancel => exact (keepsStores_execSlotCancel h).withMoves (moves_execSlotCancel h)
  | slotQuery => exact (keepsStores_execSlotQuery h).withMoves (moves_execSlotQuery h)
  | trigSet => exact (keepsStores_execTrigSet h).withMoves (moves_execTrigSet h)
  | trigRead => exact (keepsStores_execTrigRead h).withMoves (moves_execTrigRead h)
  | triggerEvent => exact (keepsStores_execTriggerEvent h).withMoves (moves_execTriggerEvent h)
  | portSetup => exact (keepsStores_execPortSetup h).withMoves (moves_execPortSetup h)
  | portQuery => exact (keepsStores_execPortQuery h).withMoves (moves_execPortQuery h)
  | wordArrival p w =>
    exact (keepsStores_whenRunning (fun t => t.keepsStores_arrive p w) h).withMoves (moves_whenRunning (fun t => t.moves_arrive p w) h)
  | wordTake p =>
    exact (keepsStores_whenRunning (fun t => t.keepsStores_takeWord p) h).withMoves (moves_whenRunning (fun t => t.moves_takeWord p) h)
  | reportAck => exact (keepsStores_execReportAck h).withMoves (moves_execReportAck h)
  | reportReplay => exact (keepsStores_execReportReplay h).withMoves (moves_execReportReplay h)
  | reportGate => exact (keepsStores_execReportGate h).withMoves (moves_execReportGate h)
  | element o => exact (keepsStores_execElement h).withMoves (moves_execElement h)
  | paceExpiry i =>
    exact (keepsStores_whenRunning (fun t => t.keepsStores_paceExpires i) h).withMoves
      (moves_whenRunning (fun t => t.moves_paceExpires i) h)

theorem step_keepsLaws (h : step s = .next t) : s.KeepsLaws t := by
  unfold step at h
  split at h
  · cases h
    exact State.KeepsStores.withMoves (.of_eq rfl rfl) s.moves_tick
  · next rest _ =>
    have hrun : State.KeepsLaws { s with pending := rest } t := exec_keepsLaws h
    exact ⟨⟨hrun.mem, hrun.ports⟩, hrun.legs⟩

end Sys2Proof.Machine

namespace Sys2Proof

open Machine

/-- Settles O55: each command keeps the three laws, and so does the passing of time. -/
theorem memoryPortAndLegLawsKept : Obligations.MemoryPortAndLegLawsKept := by
  intro s t h
  obtain ⟨⟨hmem, hports⟩, hlegs⟩ := step_keepsLaws h
  exact ⟨hmem, hports, hlegs⟩

end Sys2Proof
end

section
/-! # The governing fence entry, and the entry a FENCE_READ answers (O19, O20) -/

namespace Sys2Proof.Machine

/-! ## The governing entry (R148, R149) -/

/-- An entry governs the words from BASE on, SIZE of them, while it is enabled (R148). -/
theorem Fence.covers_iff {f : Fence} {a : Addr} :
    f.covers a = true ↔ f.enabled = true ∧ f.base.toNat ≤ a.toNat ∧ a.toNat < f.base.toNat + f.size := by
  simp [Fence.covers, and_assoc]

section
variable {fs : Vector Fence 8} {a : Addr}

theorem governing_eq_some_of_lowest {k : FenceIx} (hk : (fs.get k).covers a = true)
    (hlow : ∀ j, j < k → ¬ (fs.get j).covers a = true) : governing fs a = some (fs.get k) := by
  refine List.find?_eq_some_iff_getElem.mpr ⟨hk, k, by simp, rfl, fun j hj => ?_⟩
  simpa [Vector.get_eq_getElem] using hlow ⟨j, hj.trans k.isLt⟩ hj

theorem governing_eq_none_of_open (h : ∀ k : FenceIx, ¬ (fs.get k).covers a = true) : governing fs a = none := by
  refine List.find?_eq_none.mpr fun f hf => ?_
  obtain ⟨j, hj, rfl⟩ := List.mem_iff_getElem.mp hf
  exact h ⟨j, by simpa using hj⟩

theorem moverMayRead_of_governing {f : Fence} (h : governing fs a = some f) : moverMayRead fs a = true ↔ f.mover ≠ .none := by
  simp [moverMayRead, h]

theorem moverMayWrite_of_governing {f : Fence} (h : governing fs a = some f) : moverMayWrite fs a = true ↔ f.mover = .readWrite := by
  simp [moverMayWrite, h]

theorem hostMayWrite_of_governing {f : Fence} (h : governing fs a = some f) : hostMayWrite fs a = true ↔ f.host = .readWrite := by
  simp [hostMayWrite, h]

/-- A word that no entry governs is open to the mover and to the host. -/
theorem may_of_open (h : governing fs a = none) :
    moverMayRead fs a = true ∧ moverMayWrite fs a = true ∧ hostMayWrite fs a = true := by
  simp [moverMayRead, moverMayWrite, hostMayWrite, h]

/-- Both HOST-ACCESS values let the host read (R149). -/
theorem hostMayRead_eq_true (fs : Vector Fence 8) (a : Addr) : hostMayRead fs a = true := by
  unfold hostMayRead
  split
  · rfl
  · split <;> rfl

end

/-! ## The bytes of an entry -/

/-- The nine bytes of an entry, each field spelt out (R201). -/
theorem Fence.bytes_eq (f : Fence) :
    f.bytes =
      [(if f.enabled then 0x01 else 0x00 : Byte)] ++ leBytes 2 f.base.toNat ++ leBytes 4 f.size
        ++ [(match f.mover with | .none => 0x00 | .read => 0x01 | .readWrite => 0x02 : Byte)]
        ++ [(match f.host with | .readWrite => 0x00 | .read => 0x01 : Byte)] := by
  obtain ⟨enabled, base, size, mover, host⟩ := f
  cases enabled <;> cases mover <;> cases host <;> rfl

end Sys2Proof.Machine

namespace Sys2Proof

open Machine

/-- Settles O20: the search of the table stops at the lowest entry that covers the word. -/
theorem lowestEnabledFenceGoverns : Obligations.LowestEnabledFenceGoverns := by
  intro fs a covers
  have hcovers (k : FenceIx) : (fs.get k).covers a = true ↔ covers k := Fence.covers_iff
  refine ⟨fun k hk hlow => ?_, fun hopen => ?_, hostMayRead_eq_true fs a⟩
  · have hgov := governing_eq_some_of_lowest ((hcovers k).mpr hk) fun j hj => (hcovers j).not.mpr (hlow j hj)
    exact ⟨moverMayRead_of_governing hgov, moverMayWrite_of_governing hgov, hostMayWrite_of_governing hgov⟩
  · exact may_of_open (governing_eq_none_of_open fun k => (hcovers k).not.mpr (hopen k))

/-- Settles O19: the reply carries the entry's bytes, or is RANGE. -/
theorem fenceReadReturnsTheEntry : Obligations.FenceReadReturnsTheEntry := by
  intro s r rest k htakes hkind hk hbody
  obtain ⟨hcheck, hindex⟩ := slotBody (k := .fenceRead) rfl rfl hk hbody
  show execFenceRead s = _
  split
  · next hlt =>
    have hread : execFenceRead s = .next { s with link := replied s.link r rest .ok (s.fence ⟨k, hlt⟩).bytes } :=
      State.serveNow_of_takes (u := s.taken rest) (rep := Reply.okWith (s.fence ⟨k, hlt⟩).bytes) htakes hkind hcheck
        (by simp only [hindex, index?_of_lt hlt]; rfl) rfl
    rw [Fence.bytes_eq] at hread
    exact hread
  · next hlt =>
    exact State.serveNow_of_takes (u := s.taken rest) (rep := Reply.bare .range) htakes hkind hcheck
      (by simp only [hindex, index?_of_not_lt hlt]) rfl

end Sys2Proof
end

section
/-! # FENCE_SET and TRIG_SET (O18) -/

namespace Sys2Proof.Machine

variable {s : State} {r : Request} {rest : List Request}

/-! ## The codes (R201) -/

theorem MoverAccess.ofCode?_eq (v : Nat) :
    MoverAccess.ofCode? v = if v ≤ 2 then some (if v = 0 then .none else if v = 1 then .read else .readWrite) else Option.none := by
  rcases v with _ | _ | _ | v
  · rfl
  · rfl
  · rfl
  · simp [MoverAccess.ofCode?, MoverAccess.code]

theorem HostAccess.ofCode?_eq (v : Nat) :
    HostAccess.ofCode? v = if v ≤ 1 then some (if v = 0 then .readWrite else .read) else none := by
  rcases v with _ | _ | v
  · rfl
  · rfl
  · simp [HostAccess.ofCode?, HostAccess.code]

theorem EventKind.ofCode?_eq (v : Nat) :
    EventKind.ofCode? v =
      if v ≤ 4 then
        some (if v = 0 then .burstEnd else if v = 1 then .mark else if v = 2 then .legEnd else if v = 3 then .chainEnd else .fault)
      else none := by
  rcases v with _ | _ | _ | _ | _ | v
  · rfl
  · rfl
  · rfl
  · rfl
  · rfl
  · simp [EventKind.ofCode?, EventKind.code]

theorem Action.ofCode?_eq (v : Nat) :
    Action.ofCode? v = if v ≤ 2 then some (if v = 0 then .start else if v = 1 then .arm else .hold) else none := by
  rcases v with _ | _ | _ | v
  · rfl
  · rfl
  · rfl
  · simp [Action.ofCode?, Action.code]

/-! ## The body of a FENCE-SET -/

/-- The bytes of a FENCE-SET body (R201). -/
def fenceSetBytes (k base size m h : Nat) (en : Bool) : List Byte :=
  leBytes 1 k ++ [if en then 0x01 else 0x00] ++ leBytes 2 base ++ leBytes 4 size ++ leBytes 1 m ++ leBytes 1 h

section
variable {k base size m h : Nat} {en : Bool}

theorem fenceSet_bodyRefusal? : bodyRefusal? .fenceSet (fenceSetBytes k base size m h en) = none :=
  bodyRefusal?_eq_none.mpr
    ⟨by simp [fenceSetBytes, ReqKind.lengthOk],
      by cases en <;> simp [fenceSetBytes, ReqKind.unusedClear, ReqKind.flagsByte?, byteAt, leBytes]⟩

theorem fenceSetBytes_index (hk : k < 256) : fieldAt (fenceSetBytes k base size m h en) 0 1 = k := by
  simpa [fenceSetBytes] using hk

/-- The five fields read back, where each is in its set and the range ends by 65535 (R150). -/
theorem fence?_fenceSetBytes (hbase : base < 65536) (hsize : size < 4294967296) (hm : m < 256) (hh : h < 256) :
    fence? (fenceSetBytes k base size m h en) =
      if m ≤ 2 ∧ h ≤ 1 ∧ 1 ≤ size ∧ size ≤ 65536 ∧ base + size ≤ 65536 then
        some
          { enabled := en, base := BitVec.ofNat 16 base, size := size
            mover := if m = 0 then .none else if m = 1 then .read else .readWrite
            host := if h = 0 then .readWrite else .read }
      else none := by
  have henField : (byteAt (fenceSetBytes k base size m h en) 1).getLsbD 0 = en := by
    cases en <;> simp [fenceSetBytes, byteAt, leBytes]
  have hbaseField : fieldAt (fenceSetBytes k base size m h en) 2 2 = base := by simpa [fenceSetBytes] using hbase
  have hsizeField : fieldAt (fenceSetBytes k base size m h en) 4 4 = size := by simpa [fenceSetBytes] using hsize
  have hmField : fieldAt (fenceSetBytes k base size m h en) 8 1 = m := by simpa [fenceSetBytes] using hm
  have hhField : fieldAt (fenceSetBytes k base size m h en) 9 1 = h := by simpa [fenceSetBytes] using hh
  simp only [fence?, henField, hbaseField, hsizeField, hmField, hhField, MoverAccess.ofCode?_eq, HostAccess.ofCode?_eq]
  by_cases hmover : m ≤ 2
  · by_cases hhost : h ≤ 1
    · simp only [hmover, hhost, if_true, true_and]
    · simp only [hmover, hhost, if_true, if_false, false_and, and_false]
  · simp only [hmover, if_false, false_and]

end

/-! ## The rows of FENCE_SET -/

section
variable (htakes : Takes s r rest) (hkind : r.kind = .fenceSet) (hcheck : bodyRefusal? .fenceSet r.body = none)
include htakes hkind hcheck

theorem execFenceSet_range (hk : index? 8 (fieldAt r.body 0 1) = none) :
    execFenceSet s = .next { s with link := replied s.link r rest .range [] } :=
  State.serveNow_of_takes (u := s.taken rest) (rep := Reply.bare .range) htakes hkind hcheck (by simp only [hk]) rfl

variable {k : FenceIx} (hk : index? 8 (fieldAt r.body 0 1) = some k)
include hk

theorem execFenceSet_field (hf : fence? r.body = none) :
    execFenceSet s = .next { s with link := replied s.link r rest .field [] } :=
  State.serveNow_of_takes (u := s.taken rest) (rep := Reply.bare .field) htakes hkind hcheck (by simp only [hk, hf]) rfl

theorem execFenceSet_taken {f : Fence} (hf : fence? r.body = some f) :
    execFenceSet s = .next { s.takeFence k f with link := replied s.link r rest .ok [] } :=
  State.serveNow_of_takes (u := (s.taken rest).takeFence k f) (rep := Reply.bare .ok) htakes hkind hcheck
    (by simp only [hk, hf]) rfl

end

/-! ## The fence table that the element in flight meets (R53, R150) -/

/-- Granted after the FENCE-SET, an element whose grant no step has fixed meets the new table; granted before, the table that it would
have met without it. -/
theorem State.elementFences_takeFence (hgrant : s.bufArb.grant = none) (hin : s.bufferInFlight = true)
    (hfixed : s.bufArb.fencesAtGrant = none) (k : FenceIx) (f : Fence) :
    (s.takeFence k f).elementFences 0 = (s.takeFence k f).fences ∧
      ∀ n, (s.takeFence k f).elementFences (n + 1) = s.elementFences n := by
  simp [State.elementFences, State.takeFence, State.keepFences, hgrant, hin, hfixed, List.getLast?_cons]

/-- A grant that a step has fixed keeps its table. -/
theorem State.elementFences_takeFence_of_fixed (hfixed : s.bufArb.fencesAtGrant.isSome = true) (k : FenceIx) (f : Fence) (n : Nat) :
    (s.takeFence k f).elementFences n = s.elementFences n := by
  obtain ⟨fences, hfences⟩ := Option.isSome_iff_exists.mp hfixed
  have hkept : (s.takeFence k f).bufArb.fencesAtGrant = some fences := by
    show s.keepFences.fencesAtGrant = _
    unfold State.keepFences
    split
    · exact hfences
    · exact hfences
  rw [State.elementFences_fixed hfences, State.elementFences_fixed hkept]

/-! ## The body of a TRIG-SET -/

/-- The bytes of a TRIG-SET body (R201). -/
def trigSetBytes (k ev src tgt act : Nat) (en one : Bool) : List Byte :=
  leBytes 1 k ++ [BitVec.ofNat 8 ((if en then 1 else 0) + (if one then 2 else 0))] ++ leBytes 1 ev ++ leBytes 1 src
    ++ leBytes 1 tgt ++ leBytes 1 act

section
variable {k ev src tgt act : Nat} {en one : Bool}

theorem trigSet_bodyRefusal? : bodyRefusal? .trigSet (trigSetBytes k ev src tgt act en one) = none :=
  bodyRefusal?_eq_none.mpr
    ⟨by simp [trigSetBytes, ReqKind.lengthOk],
      by cases en <;> cases one <;> simp [trigSetBytes, ReqKind.unusedClear, ReqKind.flagsByte?, byteAt, leBytes]⟩

theorem trigSetBytes_index (hk : k < 256) : fieldAt (trigSetBytes k ev src tgt act en one) 0 1 = k := by
  simpa [trigSetBytes] using hk

/-- The six fields read back, where each is in its set (R107). -/
theorem trigger?_trigSetBytes (hev : ev < 256) (hsrc : src < 256) (htgt : tgt < 256) (hact : act < 256) :
    trigger? (trigSetBytes k ev src tgt act en one) =
      if hf : ev ≤ 4 ∧ src < 16 ∧ tgt < 16 ∧ act ≤ 2 then
        some
          { enabled := en, oneShot := one
            event :=
              if ev = 0 then .burstEnd else if ev = 1 then .mark else if ev = 2 then .legEnd
              else if ev = 3 then .chainEnd else .fault
            source := ⟨src, hf.2.1⟩, target := ⟨tgt, hf.2.2.1⟩
            action := if act = 0 then .start else if act = 1 then .arm else .hold }
      else none := by
  have hflags : byteAt (trigSetBytes k ev src tgt act en one) 1 =
      BitVec.ofNat 8 ((if en then 1 else 0) + (if one then 2 else 0)) := by simp [trigSetBytes, byteAt, leBytes]
  have henField : (byteAt (trigSetBytes k ev src tgt act en one) 1).getLsbD 0 = en := by
    rw [hflags]
    cases en <;> cases one <;> rfl
  have honeField : (byteAt (trigSetBytes k ev src tgt act en one) 1).getLsbD 1 = one := by
    rw [hflags]
    cases en <;> cases one <;> rfl
  have hevField : fieldAt (trigSetBytes k ev src tgt act en one) 2 1 = ev := by simpa [trigSetBytes] using hev
  have hsrcField : fieldAt (trigSetBytes k ev src tgt act en one) 3 1 = src := by simpa [trigSetBytes] using hsrc
  have htgtField : fieldAt (trigSetBytes k ev src tgt act en one) 4 1 = tgt := by simpa [trigSetBytes] using htgt
  have hactField : fieldAt (trigSetBytes k ev src tgt act en one) 5 1 = act := by simpa [trigSetBytes] using hact
  simp only [trigger?, henField, honeField, hevField, hsrcField, htgtField, hactField, EventKind.ofCode?_eq, Action.ofCode?_eq]
  by_cases hev : ev ≤ 4
  · by_cases hsrc : src < 16
    · by_cases htgt : tgt < 16
      · by_cases hact : act ≤ 2
        · simp only [hev, hsrc, htgt, hact, and_self, if_true, dite_true, index?_of_lt]
        · simp only [hev, hsrc, htgt, hact, and_false, if_true, if_false, dite_false, index?_of_lt]
      · simp only [hev, hsrc, htgt, false_and, and_false, if_true, dite_false, index?_of_lt, index?_of_not_lt, not_false_eq_true]
    · simp only [hev, hsrc, false_and, and_false, if_true, dite_false, index?_of_not_lt, not_false_eq_true]
  · simp only [hev, false_and, if_false, dite_false]

end

/-! ## The rows of TRIG_SET -/

section
variable (htakes : Takes s r rest) (hkind : r.kind = .trigSet) (hcheck : bodyRefusal? .trigSet r.body = none)
include htakes hkind hcheck

theorem execTrigSet_range (hk : index? 32 (fieldAt r.body 0 1) = none) :
    execTrigSet s = .next { s with link := replied s.link r rest .range [] } :=
  State.serveNow_of_takes (u := s.taken rest) (rep := Reply.bare .range) htakes hkind hcheck (by simp only [hk]) rfl

variable {k : TrigIx} (hk : index? 32 (fieldAt r.body 0 1) = some k)
include hk

theorem execTrigSet_field (he : trigger? r.body = none) :
    execTrigSet s = .next { s with link := replied s.link r rest .field [] } :=
  State.serveNow_of_takes (u := s.taken rest) (rep := Reply.bare .field) htakes hkind hcheck (by simp only [hk, he]) rfl

theorem execTrigSet_taken {e : Trigger} (he : trigger? r.body = some e) :
    execTrigSet s = .next { s with link := replied s.link r rest .ok [], triggers := s.triggers.set k e } :=
  State.serveNow_of_takes (u := (s.taken rest).setTrigger k e) (rep := Reply.bare .ok) htakes hkind hcheck
    (by simp only [hk, he]) rfl

end

end Sys2Proof.Machine

namespace Sys2Proof

open Machine

/-- Settles O18: the fields read back from their bytes, the checks come in their order, and an accepted FENCE-SET keeps for the element
in flight the table that it replaces. -/
theorem fenceSetAndTrigSetReplaceTheEntry : Obligations.FenceSetAndTrigSetReplaceTheEntry := by
  refine ⟨fun s r rest k base size m h en htakes hkind hk hbase hsize hm hh hbody => ?_,
    fun s r rest k ev src tgt act en one htakes hkind hk hev hsrc htgt hact hbody => ?_⟩
  · have hbody : r.body = fenceSetBytes k base size m h en := hbody
    have hcheck : bodyRefusal? .fenceSet r.body = none := hbody ▸ fenceSet_bodyRefusal?
    have hindex : fieldAt r.body 0 1 = k := hbody ▸ fenceSetBytes_index hk
    have hfence := hbody ▸ fence?_fenceSetBytes (k := k) (en := en) hbase hsize hm hh
    refine ⟨?_, fun t ht hlt hmover hhost hpos hsize hend hin => ?_⟩
    · show execFenceSet s = _
      split
      · next hlt =>
        have hslot : index? 8 (fieldAt r.body 0 1) = some ⟨k, hlt⟩ := hindex ▸ index?_of_lt hlt
        split
        · next hfields => exact execFenceSet_taken htakes hkind hcheck hslot (hfence.trans (if_pos hfields))
        · next hfields => exact execFenceSet_field htakes hkind hcheck hslot (hfence.trans (if_neg hfields))
      · next hlt => exact execFenceSet_range htakes hkind hcheck (hindex ▸ index?_of_not_lt hlt)
    · have hslot : index? 8 (fieldAt r.body 0 1) = some ⟨k, hlt⟩ := hindex ▸ index?_of_lt hlt
      have hrun := execFenceSet_taken htakes hkind hcheck hslot (hfence.trans (if_pos ⟨hmover, hhost, hpos, hsize, hend⟩))
      cases hrun.symm.trans ht
      exact ⟨fun hfixed hgrant => State.elementFences_takeFence hgrant hin hfixed _ _,
        fun hfixed n => State.elementFences_takeFence_of_fixed hfixed _ _ n⟩
  · have hbody : r.body = trigSetBytes k ev src tgt act en one := hbody
    have hcheck : bodyRefusal? .trigSet r.body = none := hbody ▸ trigSet_bodyRefusal?
    have hindex : fieldAt r.body 0 1 = k := hbody ▸ trigSetBytes_index hk
    have hentry := hbody ▸ trigger?_trigSetBytes (k := k) (en := en) (one := one) hev hsrc htgt hact
    show execTrigSet s = _
    split
    · next hlt =>
      have hslot : index? 32 (fieldAt r.body 0 1) = some ⟨k, hlt⟩ := hindex ▸ index?_of_lt hlt
      split
      · next hfields => exact execTrigSet_taken htakes hkind hcheck hslot (hentry.trans (dif_pos hfields))
      · next hfields => exact execTrigSet_field htakes hkind hcheck hslot (hentry.trans (dif_neg hfields))
    · next hlt => exact execTrigSet_range htakes hkind hcheck (hindex ▸ index?_of_not_lt hlt)

end Sys2Proof
end

section
/-! # Host blocks: the ask for a grant, and the granted block (O15, O16, O17) -/

namespace Sys2Proof.Machine

variable {s : State} {r : Request} {rest : List Request} {o : AskOrder}

/-! ## The body of a block (R201) -/

theorem length_flatMap_wordBytes (ws : List Word) : (ws.flatMap wordBytes).length = 4 * ws.length := by
  induction ws with
  | nil => rfl
  | cons w ws ih => simp only [List.flatMap_cons, List.length_append, ih, wordBytes, length_leBytes, List.length_cons]; omega

/-- The words of a run of words in bytes read back. -/
theorem wordAt_flatMap_wordBytes (ws : List Word) (k : Nat) (h : k < ws.length) : wordAt (ws.flatMap wordBytes) (4 * k) = ws[k] := by
  induction ws generalizing k with
  | nil => cases h
  | cons w ws ih =>
    cases k with
    | zero =>
      rw [Nat.mul_zero, wordAt, List.flatMap_cons, wordBytes, fieldAt_leBytes_append,
        Nat.mod_eq_of_lt (show w.toNat < 256 ^ 4 from w.isLt), BitVec.ofNat_toNat, BitVec.setWidth_eq, List.getElem_cons_zero]
    | succ k =>
      have hpast : wordAt ((w :: ws).flatMap wordBytes) (4 * (k + 1)) = wordAt (ws.flatMap wordBytes) (4 * k) := by
        simp only [wordAt, List.flatMap_cons, wordBytes]
        rw [fieldAt_append_of_le (by rw [length_leBytes]; omega), length_leBytes]
        rfl
      rw [hpast, ih k (Nat.lt_of_succ_lt_succ h), List.getElem_cons_succ]

theorem blockWords_body (a : Nat) (ws : List Word) : blockWords (leBytes 2 a ++ ws.flatMap wordBytes) = ws := by
  have hlen : (leBytes 2 a ++ ws.flatMap wordBytes).length = 2 + 4 * ws.length := by
    rw [List.length_append, length_leBytes, length_flatMap_wordBytes]
  refine List.ext_getElem (by simp [blockWords, hlen]) fun k _ hk => ?_
  have hpast : wordAt (leBytes 2 a ++ ws.flatMap wordBytes) (2 + 4 * k) = wordAt (ws.flatMap wordBytes) (4 * k) := by
    simp [wordAt]
  simp only [blockWords, List.getElem_map, List.getElem_range, hpast, wordAt_flatMap_wordBytes ws k hk]

theorem blockStart_body (a : Addr) (ys : List Byte) : blockStart (leBytes 2 a.toNat ++ ys) = a := by
  rw [blockStart, fieldAt_leBytes_append, Nat.mod_eq_of_lt (show a.toNat < 256 ^ 2 from a.isLt), BitVec.ofNat_toNat,
    BitVec.setWidth_eq]

theorem bufWrite_bodyRefusal? {a : Nat} {ws : List Word} (hpos : 1 ≤ ws.length) (hcap : ws.length ≤ 60) :
    bodyRefusal? .bufWrite (leBytes 2 a ++ ws.flatMap wordBytes) = none := by
  refine bodyRefusal?_of_no_flags rfl ?_
  simp only [ReqKind.lengthOk, List.length_append, length_leBytes, length_flatMap_wordBytes, Config.blockCap, Bool.and_eq_true,
    decide_eq_true_eq]
  omega

theorem bufRead_bodyRefusal? (a n : Nat) : bodyRefusal? .bufRead (leBytes 2 a ++ leBytes 1 n) = none :=
  bodyRefusal?_of_no_flags rfl (by simp [ReqKind.lengthOk])

theorem bufReadBytes_count {a n : Nat} (hn : n < 256) : fieldAt (leBytes 2 a ++ leBytes 1 n) 2 1 = n := by simpa using hn

theorem blockBytes_start {a : Nat} (ha : a < 65536) (ys : List Byte) : fieldAt (leBytes 2 a ++ ys) 0 2 = a := by
  simpa using ha

/-! ## The ask (R146) -/

theorem State.blockAsks_eq (s : State) (o : AskOrder) : s.blockAsks o = { s with bufArb := (s.blockAsks o).bufArb } := by
  unfold State.blockAsks
  split
  · rfl
  · split
    · split <;> rfl
    · rfl

/-- The taking of the request has no part in what the buffer arbiter decides. -/
theorem State.bufArb_blockAsks_taken (s : State) (rest : List Request) (o : AskOrder) :
    ((s.taken rest).blockAsks o).bufArb = (s.blockAsks o).bufArb := by
  have harb : (s.taken rest).bufArb = s.bufArb := rfl
  have hin : (s.taken rest).bufferInFlight = s.bufferInFlight := rfl
  simp only [State.blockAsks, harb, hin]
  split
  · rfl
  · split
    · split <;> rfl
    · rfl

theorem State.startBlock_taken (s : State) (r : Request) (rest : List Request) (o : AskOrder) :
    (s.taken rest).startBlock r o =
      { s with
        link := waiting s.link r rest .hostBlock s.reports.queue.length
        bufArb := (s.blockAsks o).bufArb } := by
  rw [State.startBlock, State.blockAsks_eq, State.bufArb_blockAsks_taken]
  rfl

section
variable (hgrant : s.bufArb.grant = none)
include hgrant

theorem State.blockAsks_of_free (hin : s.bufferInFlight = false) :
    (s.blockAsks o).bufArb = { grant := some .link, waiting := none, last := .link, fencesAtGrant := none, fencesReplaced := [] } := by
  simp [State.blockAsks, hgrant, hin]

variable (hin : s.bufferInFlight = true)
include hin

theorem State.blockAsks_elementFirst :
    (s.blockAsks .elementFirst).bufArb = { s.bufArb with grant := some .mover, waiting := some .link, last := .mover } := by
  simp [State.blockAsks, hgrant, hin, BufArbiter.elementHeld]

theorem State.blockAsks_together_link (hlast : s.bufArb.last = .link) :
    (s.blockAsks .together).bufArb =
      { grant := some .mover, waiting := some .link, last := .mover, fencesAtGrant := some s.fences, fencesReplaced := [] } := by
  simp [State.blockAsks, hgrant, hin, hlast, BufArbiter.elementHolds]

theorem State.blockAsks_blockHolds (ho : o = .blockFirst ∨ (o = .together ∧ s.bufArb.last = .mover)) :
    (s.blockAsks o).bufArb =
      { grant := some .link, waiting := some .mover, last := .link, fencesAtGrant := none, fencesReplaced := [] } := by
  rcases ho with rfl | ⟨rfl, hlast⟩
  · simp [State.blockAsks, hgrant, hin, BufArbiter.blockHolds]
  · simp [State.blockAsks, hgrant, hin, hlast, BufArbiter.blockHolds]

end

theorem State.blockAsks_of_granted {q : Requester} (hgrant : s.bufArb.grant = some q) :
    (s.blockAsks o).bufArb = { s.bufArb with waiting := some .link } := by
  simp [State.blockAsks, hgrant]

/-! ## The rows of BUF_WRITE and BUF_READ -/

theorem blockInRange_iff {start n : Nat} : blockInRange start n = true ↔ start + n ≤ 65536 := decide_eq_true_iff

section
variable {a : Nat} {ws : List Word} (htakes : Takes s r rest) (hkind : r.kind = .bufWrite) (ha : a < 65536) (hpos : 1 ≤ ws.length)
  (hcap : ws.length ≤ 60) (hbody : r.body = leBytes 2 a ++ ws.flatMap wordBytes)
include htakes hkind ha hpos hcap hbody

theorem execBufWrite_eq :
    execBufWrite o s =
      if a + ws.length ≤ 65536 then
        .next { s with
          link := waiting s.link r rest .hostBlock s.reports.queue.length
          bufArb := (s.blockAsks o).bufArb }
      else .next { s with link := replied s.link r rest .range [] } := by
  have hcheck : bodyRefusal? .bufWrite r.body = none := hbody ▸ bufWrite_bodyRefusal? hpos hcap
  have hstart : fieldAt r.body 0 2 = a := hbody ▸ blockBytes_start ha _
  have hwords : blockWords r.body = ws := hbody ▸ blockWords_body a ws
  rw [execBufWrite, State.serve_of_takes htakes hkind hcheck]
  simp only [hstart, hwords, blockInRange_iff, State.startBlock_taken]
  rw [State.answer_of_taken (s := s) (rest := rest) rfl]
  rfl

end

section
variable {a n : Nat} (htakes : Takes s r rest) (hkind : r.kind = .bufRead) (ha : a < 65536) (hn : n < 256)
  (hbody : r.body = leBytes 2 a ++ leBytes 1 n)
include htakes hkind ha hn hbody

theorem execBufRead_eq :
    execBufRead o s =
      if n = 0 ∨ 60 < n then .next { s with link := replied s.link r rest .field [] }
      else if 65536 < a + n then .next { s with link := replied s.link r rest .range [] }
      else
        .next { s with
          link := waiting s.link r rest .hostBlock s.reports.queue.length
          bufArb := (s.blockAsks o).bufArb } := by
  have hcheck : bodyRefusal? .bufRead r.body = none := hbody ▸ bufRead_bodyRefusal? a n
  have hstart : fieldAt r.body 0 2 = a := hbody ▸ blockBytes_start ha _
  have hcount : fieldAt r.body 2 1 = n := hbody ▸ bufReadBytes_count hn
  rw [execBufRead, State.serve_of_takes htakes hkind hcheck]
  simp only [hstart, hcount, blockInRange_iff, State.startBlock_taken, Config.blockCap]
  rw [State.answer_of_taken (s := s) (rest := rest) rfl, State.answer_of_taken (s := s) (rest := rest) rfl]
  by_cases hrange : 1 ≤ n ∧ n ≤ 60
  · rw [if_pos hrange, if_neg (show ¬ (n = 0 ∨ 60 < n) by omega)]
    by_cases hend : a + n ≤ 65536
    · rw [if_pos hend, if_neg (show ¬ 65536 < a + n by omega)]
    · rw [if_neg hend, if_pos (show 65536 < a + n by omega)]
      rfl
  · rw [if_neg hrange, if_pos (show n = 0 ∨ 60 < n by omega)]
    rfl

end

/-! ## The words of a block (R153) -/

theorem Addr.add_succ (a : Addr) (k : Nat) : a + BitVec.ofNat 16 (k + 1) = a + 1 + BitVec.ofNat 16 k := by
  rw [Nat.add_comm, BitVec.ofNat_add, BitVec.add_assoc]
  rfl

theorem Addr.toNat_add {a : Addr} {k n : Nat} (hk : k < n) (hend : a.toNat + n ≤ 65536) :
    (a + BitVec.ofNat 16 k).toNat = a.toNat + k := by
  rw [BitVec.toNat_add, BitVec.toNat_ofNat]
  omega

/-- A block written leaves the words outside it as they were. -/
theorem State.word_writeWords_outside (ws : List Word) {s : State} (h : memWf s.mem = true) {a b : Addr}
    (hend : a.toNat + ws.length ≤ 65536) (hb : ¬ (a.toNat ≤ b.toNat ∧ b.toNat < a.toNat + ws.length)) :
    (s.writeWords a ws).word b = s.word b := by
  induction ws generalizing s a with
  | nil => rfl
  | cons w ws ih =>
    have hnext : (a + 1).toNat = (a.toNat + 1) % 65536 := by simp [BitVec.toNat_add]
    have hne : b ≠ a := fun heq => hb (by subst heq; simp)
    have hwf : memWf (s.writeWord a w).mem = true := State.memWf_setWord h a _
    simp only [List.length_cons] at hend hb
    rw [State.writeWords, ih hwf (by omega) (by omega), State.writeWord, State.word_setWord h, if_neg hne]

/-- Each word of a block written is the good word carried for it. -/
theorem State.word_writeWords (ws : List Word) {s : State} (h : memWf s.mem = true) {a : Addr}
    (hend : a.toNat + ws.length ≤ 65536) {k : Nat} (hk : k < ws.length) :
    (s.writeWords a ws).word (a + BitVec.ofNat 16 k) = .good ws[k] := by
  induction ws generalizing s a k with
  | nil => cases hk
  | cons w ws ih =>
    have hnext : (a + 1).toNat = (a.toNat + 1) % 65536 := by simp [BitVec.toNat_add]
    have hwf : memWf (s.writeWord a w).mem = true := State.memWf_setWord h a _
    simp only [List.length_cons] at hend hk
    cases k with
    | zero =>
      have hself : a + BitVec.ofNat 16 0 = a := by simp
      rw [hself, State.writeWords, State.word_writeWords_outside ws hwf (by omega) (by omega), State.writeWord,
        State.word_setWord h, if_pos rfl, List.getElem_cons_zero]
    | succ k => rw [Addr.add_succ, State.writeWords, ih hwf (by omega) (by omega), List.getElem_cons_succ]

/-! ## The search of a block for its lowest word with a property -/

theorem find?_blockAddrs_eq_some {a : Addr} {n k : Nat} {p : Addr → Bool} (hk : k < n) (hp : p (a + BitVec.ofNat 16 k) = true)
    (hlow : ∀ j, j < k → p (a + BitVec.ofNat 16 j) = false) : (blockAddrs a n).find? p = some (a + BitVec.ofNat 16 k) := by
  have hfound : (List.range n).find? (p ∘ fun k => a + BitVec.ofNat 16 k) = some k :=
    List.find?_range_eq_some.mpr ⟨hp, List.mem_range.mpr hk, fun j hj => by simp [hlow j hj]⟩
  rw [blockAddrs, List.find?_map, hfound, Option.map_some]

theorem find?_blockAddrs_eq_none {a : Addr} {n : Nat} {p : Addr → Bool} (h : ∀ k, k < n → p (a + BitVec.ofNat 16 k) = false) :
    (blockAddrs a n).find? p = none := by
  have hfound : (List.range n).find? (p ∘ fun k => a + BitVec.ofNat 16 k) = none :=
    List.find?_range_eq_none.mpr fun k hk => by simp [h k hk]
  rw [blockAddrs, List.find?_map, hfound, Option.map_none]

/-! ## The granted block (R146) -/

theorem BufArbiter.blockDone_eq (b : BufArbiter) (fences : Vector Fence 8) : b.blockDone fences = grantAfterBlock fences b := by
  unfold BufArbiter.blockDone grantAfterBlock
  split
  · next h => rw [if_pos h]
  · next h => rw [if_neg h]

/-- HOST_BLOCK_GRANT runs the block that holds the grant, and passes the grant on. -/
theorem execHostBlockGrant_of_granted {e : Executing} {mem : List (Nat × BufWord)} {k : Link} (hrun : s.phase = .running)
    (he : s.link.executing = some e) (hwaits : e.waits = .hostBlock) (hgrant : s.bufArb.grant = some .link)
    (hblock : s.runBlock e.request = { s with mem := mem, link := k }) :
    execHostBlockGrant s = .next { s with mem := mem, link := k, bufArb := grantAfterBlock s.fences s.bufArb } := by
  rw [execHostBlockGrant, State.whenRunning_of_running hrun]
  simp only [he, hwaits, hgrant, and_self, if_true, hblock, BufArbiter.blockDone_eq]

theorem State.runBlock_of_bufWrite (hkind : r.kind = .bufWrite) : s.runBlock r = s.runWriteBlock r := by
  simp only [State.runBlock, hkind]

theorem State.runBlock_of_bufRead (hkind : r.kind = .bufRead) : s.runBlock r = s.runReadBlock r := by
  simp only [State.runBlock, hkind]

/-! ### BUF_WRITE -/

theorem State.runWriteBlock_frame (s : State) (r : Request) :
    s.runWriteBlock r = { s with mem := (s.runWriteBlock r).mem, link := (s.runWriteBlock r).link } := by
  unfold State.runWriteBlock
  split
  · rfl
  · rw [State.writeWords_frame]
    rfl

section
variable {a : Addr} {ws : List Word} (hbody : r.body = leBytes 2 a.toNat ++ ws.flatMap wordBytes)
include hbody

theorem State.runWriteBlock_written (hmay : ∀ k, k < ws.length → hostMayWrite s.fences (a + BitVec.ofNat 16 k) = true) :
    s.runWriteBlock r =
      { s with mem := (s.writeWords a ws).mem, link := replied s.link r s.link.inbox .ok [] } := by
  have hfind : (blockAddrs a ws.length).find? (fun b => !hostMayWrite s.fences b) = none :=
    find?_blockAddrs_eq_none fun k hk => by simp [hmay k hk]
  simp only [State.runWriteBlock, hbody, blockStart_body, blockWords_body, hfind]
  rw [State.writeWords_frame, State.answer_eq]
  rfl

theorem State.runWriteBlock_denied {k : Nat} (hend : a.toNat + ws.length ≤ 65536) (hk : k < ws.length)
    (hdenied : hostMayWrite s.fences (a + BitVec.ofNat 16 k) = false)
    (hlow : ∀ j, j < k → hostMayWrite s.fences (a + BitVec.ofNat 16 j) = true) :
    s.runWriteBlock r = { s with link := replied s.link r s.link.inbox .fence (leBytes 2 (a.toNat + k)) } := by
  have hfind : (blockAddrs a ws.length).find? (fun b => !hostMayWrite s.fences b) = some (a + BitVec.ofNat 16 k) :=
    find?_blockAddrs_eq_some hk (by simp [hdenied]) fun j hj => by simp [hlow j hj]
  simp only [State.runWriteBlock, hbody, blockStart_body, blockWords_body, hfind, State.answer_eq, Addr.toNat_add hk hend]

end

/-! ### BUF_READ -/

section
variable {a : Addr} {n : Nat} (hbody : r.body = leBytes 2 a.toNat ++ leBytes 1 n) (hn : n < 256)
include hbody hn

/-- The fence check denies no host read, so a block is read as soon as every word is good (R149, R154). -/
theorem State.runReadBlock_of_good {ws : List Word} (hlen : ws.length = n)
    (hgood : ∀ k (h : k < ws.length), s.word (a + BitVec.ofNat 16 k) = .good ws[k]) :
    s.runReadBlock r = { s with link := replied s.link r s.link.inbox .ok (ws.flatMap wordBytes) } := by
  have hfence : (blockAddrs a n).find? (fun b => !hostMayRead s.fences b) = none :=
    find?_blockAddrs_eq_none fun k _ => by simp [hostMayRead_eq_true]
  have hparity : (blockAddrs a n).find? (fun b => decide (s.word b = .damaged)) = none :=
    find?_blockAddrs_eq_none fun k hk => by simp [hgood k (hlen ▸ hk)]
  have hwords : (blockAddrs a n).map s.word = ws.map .good :=
    List.ext_getElem (by simp [blockAddrs, hlen]) fun k _ hk => by
      simpa [blockAddrs] using hgood k (by simpa using hk)
  have hdata : (blockAddrs a n).flatMap (fun b => optWordBytes (s.word b).value?) = ws.flatMap wordBytes := by
    rw [← List.flatMap_map s.word fun w => optWordBytes w.value?, hwords, List.flatMap_map]
    rfl
  simp only [State.runReadBlock, hbody, blockStart_body, bufReadBytes_count hn, hfence, hparity, hdata, State.answer_eq]
  rfl

theorem State.runReadBlock_of_damaged {k : Nat} (hend : a.toNat + n ≤ 65536) (hk : k < n)
    (hdamaged : s.word (a + BitVec.ofNat 16 k) = .damaged) (hlow : ∀ j, j < k → s.word (a + BitVec.ofNat 16 j) ≠ .damaged) :
    s.runReadBlock r = { s with link := replied s.link r s.link.inbox .parity (leBytes 2 (a.toNat + k)) } := by
  have hfence : (blockAddrs a n).find? (fun b => !hostMayRead s.fences b) = none :=
    find?_blockAddrs_eq_none fun k _ => by simp [hostMayRead_eq_true]
  have hparity : (blockAddrs a n).find? (fun b => decide (s.word b = .damaged)) = some (a + BitVec.ofNat 16 k) :=
    find?_blockAddrs_eq_some hk (by simp [hdamaged]) fun j hj => by simp [hlow j hj]
  simp only [State.runReadBlock, hbody, blockStart_body, bufReadBytes_count hn, hfence, hparity, State.answer_eq,
    Addr.toNat_add hk hend]

end

end Sys2Proof.Machine

namespace Sys2Proof

open Machine

/-- Settles O15: the checks of the two requests, and the buffer arbiter's answer to the ask in each of its states. -/
theorem hostBlocksAskForTheirGrant : Obligations.HostBlocksAskForTheirGrant := by
  refine ⟨fun s r rest o a ws htakes hkind ha hpos hcap hbody => execBufWrite_eq htakes hkind ha hpos hcap hbody,
    fun s r rest o a n htakes hkind ha hn hbody => execBufRead_eq htakes hkind ha hn hbody, fun s o => ?_⟩
  refine ⟨State.blockAsks_of_free, fun hgrant hin => ⟨?_, ?_⟩, State.blockAsks_blockHolds, State.blockAsks_of_granted⟩
  · rintro rfl
    exact State.blockAsks_elementFirst hgrant hin
  · rintro rfl hlast
    exact State.blockAsks_together_link hgrant hin hlast

/-- Settles O16: the fence check goes over the whole block before a word of it is written. -/
theorem hostWriteBlockIsAllOrNothing : Obligations.HostWriteBlockIsAllOrNothing := by
  intro s e a ws hrun he hwaits hkind hgrant hwf hbody _ hend
  have hblock := (State.runBlock_of_bufWrite hkind).trans (s.runWriteBlock_frame e.request)
  refine ⟨_, execHostBlockGrant_of_granted hrun he hwaits hgrant hblock, rfl, fun hmay => ?_, fun k hk hdenied hlow => ?_⟩
  · rw [State.runWriteBlock_written hbody hmay]
    refine ⟨fun b => ?_, rfl⟩
    split
    · next hb =>
      have hword := State.word_writeWords ws hwf hend (k := b.toNat - a.toNat) (by omega)
      have haddr : a + BitVec.ofNat 16 (b.toNat - a.toNat) = b :=
        BitVec.eq_of_toNat_eq ((Addr.toNat_add (by omega) hend).trans (by omega))
      rwa [haddr] at hword
    · next hb => exact State.word_writeWords_outside ws hwf hend hb
  · rw [State.runWriteBlock_denied hbody hend hk hdenied hlow]
    exact ⟨rfl, rfl⟩

/-- Settles O17: the search of the block stops at its lowest damaged word, and without one every word is read. -/
theorem hostReadBlockReturnsGoodWords : Obligations.HostReadBlockReturnsGoodWords := by
  intro s e a n hrun he hwaits hkind hgrant hbody _ hcap hend
  have hblock := State.runBlock_of_bufRead (s := s) hkind
  have hn : n < 256 := by omega
  refine ⟨fun ws hlen hgood => ?_, fun k hk hdamaged hlow => ?_⟩
  · exact execHostBlockGrant_of_granted hrun he hwaits hgrant (hblock.trans (State.runReadBlock_of_good hbody hn hlen hgood))
  · exact execHostBlockGrant_of_granted hrun he hwaits hgrant
      (hblock.trans (State.runReadBlock_of_damaged hbody hn hend hk hdamaged hlow))

end Sys2Proof
end

section
/-! # An upset, outside start-up and in it (O38) -/

namespace Sys2Proof.Machine

variable {s t v : State} {n : Nat}

theorem execUpset_of_not_startUp (h : ∀ n, s.phase ≠ .startUp n) (u : Upset) :
    execUpset u s = .next (s.setWord u.addr .damaged) := by
  unfold execUpset
  split
  · next n hn => exact absurd hn (h n)
  · rfl

theorem execUpset_of_startUp (h : s.phase = .startUp n) (u : Upset) :
    execUpset u s = .next ((s.startUpReaches n u.written).setWord u.addr .damaged) := by
  simp only [execUpset, h]

/-- The words that start-up has written since are good zeros (R144). -/
theorem State.word_startUpReaches (s : State) (n written : Nat) (b : Addr) :
    (s.startUpReaches n written).word b =
      if n ≤ b.toNat ∧ b.toNat < max n (min written 65536) then .good 0 else s.word b := memRead_memZero _ _ _ _

theorem State.memWf_startUpReaches (h : memWf s.mem = true) (n written : Nat) :
    memWf (s.startUpReaches n written).mem = true := memWf_memZero h _ _

/-- The end of start-up leaves a good zero at every word that start-up had still to write (R144). -/
theorem word_execStartUpEnd (h : t.phase = .startUp n) (hv : execStartUpEnd t = .next v) (b : Addr) :
    v.word b = if b.toNat < n then t.word b else .good 0 := by
  simp only [execStartUpEnd, h] at hv
  cases hv
  refine (memRead_memZero t.mem n 65536 b.toNat).trans ?_
  have hb := b.isLt
  split
  · rw [if_neg (by omega)]
  · rw [if_pos (by omega)]
    rfl

end Sys2Proof.Machine

namespace Sys2Proof

open Machine

/-- Settles O38: an upset writes one DAMAGED word, in start-up after the zeros written by then, and the end of start-up writes the rest. -/
theorem upsetDamagesOneWord : Obligations.UpsetDamagesOneWord := by
  refine ⟨fun s u hwf hphase => ?_, fun s u n hwf hphase => ?_⟩
  · exact ⟨_, execUpset_of_not_startUp hphase u, rfl, fun b => State.word_setWord hwf _ _ _⟩
  · have hword (b : Addr) := State.word_setWord (State.memWf_startUpReaches hwf n u.written) u.addr b .damaged
    refine ⟨_, execUpset_of_startUp hphase u, rfl, fun b => ?_, fun v hv => ?_⟩
    · rw [hword, State.word_startUpReaches]
    · have hend : execStartUpEnd ((s.startUpReaches n u.written).setWord u.addr .damaged) = .next v := hv
      rw [word_execStartUpEnd rfl hend, hword, if_pos rfl]
      rfl

end Sys2Proof
end

section
/-! # What the operations leave of the tables (O51)

The parts that O51 speaks of are taken together as the tables of a state. The operations of the transfer side and of the line leave
them as they were; an element and a host block write words of the buffer, and the trigger table its own entries. -/

namespace Sys2Proof.Machine

/-- The parts of a state that few commands write: the buffer, the fence and the trigger table, the leg records, the rate code and the
phase. -/
structure Tables where
  mem : List (Nat × BufWord)
  fences : Vector Fence 8
  triggers : Vector Trigger 32
  record : LegIx → Option LegRecord
  rate : BitVec 2
  phase : Phase

def State.tables (s : State) : Tables :=
  { mem := s.mem, fences := s.fences, triggers := s.triggers, record := fun l => (s.leg l).record, rate := s.link.rate
    phase := s.phase }

variable {s t : State} {i : SlotIx} {l : LegIx}

/-! ## One block is written -/

@[simp] theorem State.tables_updSlot (s : State) (i : SlotIx) (f : Slot → Slot) : (s.updSlot i f).tables = s.tables := rfl

@[simp] theorem State.tables_updPort (s : State) (p : PortIx) (f : Port → Port) : (s.updPort p f).tables = s.tables := rfl

@[simp] theorem State.tables_setMover (s : State) (m : Mover) : (s.setMover m).tables = s.tables := rfl

@[simp] theorem State.tables_setStack (s : State) (st : List Suspended) : (s.setStack st).tables = s.tables := rfl

@[simp] theorem State.tables_setLegState (s : State) (i : SlotIx) (l : LegIx) (st : LegState) :
    (s.setLegState i l st).tables = s.tables := rfl

@[simp] theorem State.tables_updReports (s : State) (f : ReportQueue → ReportQueue) : (s.updReports f).tables = s.tables := rfl

@[simp] theorem State.tables_report (s : State) (b : ReportBody) : (s.report b).tables = s.tables := rfl

@[simp] theorem State.tables_count (s : State) (f : Counters → Counters) : (s.count f).tables = s.tables := rfl

@[simp] theorem State.tables_answer (s : State) (r : Request) (rep : Reply) : (s.answer r rep).tables = s.tables := rfl

@[simp] theorem State.tables_holdEngine (s : State) (r : Request) (w : Wait) : (s.holdEngine r w).tables = s.tables := rfl

@[simp] theorem State.tables_pin (s : State) (l : LegIx) : (s.pin l).tables = s.tables := by
  simp only [State.tables, State.record_pin]
  rfl

@[simp] theorem State.tables_unpin (s : State) (l : LegIx) : (s.unpin l).tables = s.tables := by
  simp only [State.tables, State.record_unpin]
  rfl

/-! ## The operations that leave the leg store and the link: their frames say so -/

@[simp] theorem State.tables_elementBegins (s : State) : s.elementBegins.tables = s.tables := by
  simp [State.tables, State.leg]

@[simp] theorem State.tables_grant (s : State) (i : SlotIx) : (s.grant i).tables = s.tables := by
  simp [State.tables, State.leg]

@[simp] theorem State.tables_select (s : State) : s.select.tables = s.tables := by
  simp [State.tables, State.leg]

@[simp] theorem State.tables_evaluate (s : State) (i : SlotIx) : (s.evaluate i).tables = s.tables := by
  simp [State.tables, State.leg]

@[simp] theorem State.tables_signal (s : State) (p : PortIx) (was : Bool) : (s.signal p was).tables = s.tables := by
  simp [State.tables, State.leg]

@[simp] theorem State.tables_preemptionCheck (s : State) (i : SlotIx) (l : LegIx) (snap : Snapshot) :
    (s.preemptionCheck i l snap).tables = s.tables := by
  simp [State.tables, State.leg]

@[simp] theorem State.tables_blockAsks (s : State) (o : AskOrder) : (s.blockAsks o).tables = s.tables := by
  simp [State.tables, State.leg]

@[simp] theorem State.tables_settleCommit (s : State) (l : LegIx) : (s.settleCommit l).tables = s.tables := by
  simp [State.tables, State.leg]

@[simp] theorem State.tables_rollback (s : State) (i : SlotIx) (l : LegIx) (snap : Snapshot) :
    (s.rollback i l snap).tables = s.tables := by
  simp [State.tables, State.leg]

@[simp] theorem State.tables_rollbackAll (s : State) : s.rollbackAll.tables = s.tables := by
  simp [State.tables, State.leg]

@[simp] theorem State.tables_pass (s : State) (k : EventKind) (i : SlotIx) : (s.pass k i).tables = s.tables := by
  simp [State.tables, State.leg]

@[simp] theorem State.tables_markStep (s : State) (i : SlotIx) (l : LegIx) (r : LegRecord) : (s.markStep i l r).tables = s.tables := by
  simp [State.tables, State.leg]

@[simp] theorem State.tables_becomeHeld (s : State) (i : SlotIx) (l : LegIx) : (s.becomeHeld i l).tables = s.tables := by
  simp [State.tables, State.leg]

@[simp] theorem State.tables_enterFaulted (s : State) (i : SlotIx) (l : LegIx) (c : FaultCause) (e : Nat) :
    (s.enterFaulted i l c e).tables = s.tables := by
  simp [State.tables, State.leg]

@[simp] theorem State.tables_goOn (s : State) (i : SlotIx) (l : LegIx) (atCommit : Bool) : (s.goOn i l atCommit).tables = s.tables := by
  simp [State.tables, State.leg]

theorem State.tables_hold? (h : s.hold? i = some t) : t.tables = s.tables := by
  simp [State.tables, State.leg, State.hold?_frame h]

theorem State.tables_addCredits {n : Nat} (h : s.addCredits i n = .ok t) : t.tables = s.tables := by
  simp [State.tables, State.leg, State.addCredits_frame h]

/-! ## The operations that move pins -/

theorem State.tables_arm (h : s.arm i = .ok t) : t.tables = s.tables := by
  unfold State.arm at h
  repeat' split at h
  all_goals cases h
  simp

@[simp] theorem State.tables_chainEnds (s : State) (i : SlotIx) (l : LegIx) : (s.chainEnds i l).tables = s.tables := by
  simp [State.chainEnds]

@[simp] theorem State.tables_entersNext (s : State) (i : SlotIx) (l : LegIx) (r : LegRecord) (n : LegIx) (rn : LegRecord)
    (atCommit : Bool) : (s.entersNext i l r n rn atCommit).tables = s.tables := by
  unfold State.entersNext
  dsimp only
  split <;> simp

@[simp] theorem State.tables_legEndStep3 (s : State) (i : SlotIx) (l : LegIx) (r : LegRecord) (atCommit : Bool) :
    (s.legEndStep3 i l r atCommit).tables = s.tables := by
  unfold State.legEndStep3
  split
  · simp
  · split
    · split <;> simp
    · simp

@[simp] theorem State.tables_legEndStep2 (s : State) (i : SlotIx) (l : LegIx) (r : LegRecord) (atCommit : Bool) :
    (s.legEndStep2 i l r atCommit).tables = s.tables := by
  unfold State.legEndStep2
  dsimp only
  split <;> simp

@[simp] theorem State.tables_legEndStep1 (s : State) (i : SlotIx) (l : LegIx) (r : LegRecord) :
    (s.legEndStep1 i l r).tables = s.tables := by
  unfold State.legEndStep1
  split <;> simp

@[simp] theorem State.tables_afterBurst (s : State) (i : SlotIx) (l : LegIx) (r : LegRecord) :
    (s.afterBurst i l r).tables = s.tables := by
  unfold State.afterBurst
  split
  · simp
  · split <;> simp

@[simp] theorem State.tables_commit (s : State) (i : SlotIx) (l : LegIx) (r : LegRecord) : (s.commit i l r).tables = s.tables := by
  simp [State.commit]

@[simp] theorem State.tables_idleFrom (s : State) (i : SlotIx) (l : LegIx) (e : Nat) : (s.idleFrom i l e).tables = s.tables := by
  simp [State.idleFrom]

@[simp] theorem State.tables_cancelSuspended (s : State) (i : SlotIx) (l : LegIx) : (s.cancelSuspended i l).tables = s.tables := by
  unfold State.cancelSuspended
  cases s.stackSnapshot i <;> simp

@[simp] theorem State.tables_cancelAtOnce (s : State) (i : SlotIx) : (s.cancelAtOnce i).tables = s.tables := by
  unfold State.cancelAtOnce
  split
  · rfl
  · simp [State.idleFromDone]
  · simp
  · simp

theorem State.tables_resumeFaulted {cause : FaultCause} (h : s.resumeFaulted i l cause = .done t) : t.tables = s.tables := by
  unfold State.resumeFaulted at h
  repeat' split at h
  all_goals cases h
  all_goals simp

/-! ## The release and ENGINE-RESET -/

@[simp] theorem State.tables_cancelWaiting (s : State) : s.cancelWaiting.tables = s.tables := by
  rcases State.cancelWaiting_cases (s := s) with ⟨e, i, -, -, h⟩ | ⟨-, h⟩
  · simp [h]
  · rw [h]

@[simp] theorem State.tables_release (s : State) : s.release.tables = s.tables := by simp [State.release]

@[simp] theorem State.tables_releaseAt (s : State) (c n : Nat) : (s.releaseAt c n).tables = s.tables := by
  unfold State.releaseAt
  split
  · simp
  · split <;> simp

@[simp] theorem State.tables_passPoint (s : State) : s.passPoint.tables = s.tables := by
  unfold State.passPoint
  split
  · split
    · simp
    · split <;> simp
  · rfl

/-- ENGINE-RESET clears the pin counts and leaves the records (R193). -/
@[simp] theorem State.tables_resetBlocks (s : State) : s.resetBlocks.tables = s.tables := by
  simp [State.tables, State.resetBlocks, State.leg]

@[simp] theorem State.tables_engineReset (s : State) (q : Request) : (s.engineReset q).tables = s.tables := by
  have hcache (u : State) : (u.updLink fun k => { k with cache := [] }).tables = u.tables := rfl
  simp [State.engineReset, hcache]

/-! ## An element writes at most a word of the buffer (R54, R55) -/

@[simp] theorem State.tables_endBurst (s : State) (c n : Nat) : (s.endBurst c n).tables = s.tables := by
  unfold State.endBurst
  split
  · split <;> simp
  · simp

@[simp] theorem State.tables_elementFails (s : State) (c n : Nat) (i : SlotIx) (l : LegIx) (snap : Snapshot) (cause : FaultCause) :
    (s.elementFails c n i l snap cause).tables = s.tables := by
  simp [State.elementFails]

@[simp] theorem State.tables_midBurst (s : State) (n : Nat) (i : SlotIx) (l : LegIx) (snap : Snapshot) :
    (s.midBurst n i l snap).tables = s.tables := by
  unfold State.midBurst
  split
  · split
    · split <;> simp [State.cancelActive]
    · simp
    · simp
  · simp

@[simp] theorem State.tables_elementCompletes (s : State) (c n : Nat) (i : SlotIx) (l : LegIx) (r : LegRecord) (snap : Snapshot) :
    (s.elementCompletes c n i l r snap).tables = s.tables := by
  unfold State.elementCompletes
  split <;> simp

@[simp] theorem State.tables_giveBackGrant (s : State) (r : LegRecord) : (s.giveBackGrant r).tables = s.tables := by
  unfold State.giveBackGrant
  split <;> rfl

theorem State.tables_elementRead {r : LegRecord} {x : Slot} {w : Word} (h : s.elementRead r x = .word w t) :
    t.tables = s.tables := by
  unfold State.elementRead at h
  repeat' split at h
  all_goals cases h
  all_goals rfl

theorem State.tables_elementWrite {r : LegRecord} {x : Slot} {w : Word} (h : s.elementWrite r x w = .ok t) :
    t.tables = { s.tables with mem := t.mem } := by
  unfold State.elementWrite at h
  repeat' split at h
  all_goals cases h
  all_goals rfl

theorem State.tables_elementSteps {fences : Vector Fence 8} {r : LegRecord} (h : s.elementSteps fences i r = .moved t) :
    t.tables = { s.tables with mem := t.mem } := by
  unfold State.elementSteps at h
  split at h
  · cases h
  · split at h
    · cases h
    · split at h
      · cases h
      · cases h
      · next hread =>
        split at h
        · cases h
        · next u hwrite =>
          cases h
          exact (State.tables_elementWrite hwrite).trans (by rw [State.tables_elementRead hread]; rfl)

/-- An element, and a release that is made at ELEMENT's row, leave every table but the buffer. -/
theorem tables_execElement {order : ElementOrder} (h : execElement order s = .next t) :
    t.tables = { s.tables with mem := t.tables.mem } := by
  have hrun {i : SlotIx} {l : LegIx} {r : LegRecord} {snap : Snapshot} (h : s.runElement order i l r snap = .next t) :
      t.tables = { s.tables with mem := t.tables.mem } := by
    unfold State.runElement at h
    split at h <;> cases h
    · next hsteps =>
      rw [State.tables_elementCompletes, State.tables_giveBackGrant, State.tables_elementSteps hsteps]
    · rw [State.tables_elementFails, State.tables_giveBackGrant]
  unfold execElement at h
  split at h
  · split at h
    · split at h
      · split at h
        · split at h
          · cases h
            rfl
          · exact hrun h
        · cases h
      · cases h
    · cases h
      rw [State.tables_release]
    · cases h
      rfl
  · cases h
    rfl

/-! ## The granted host block -/

theorem State.tables_runBlock (s : State) (q : Request) : (s.runBlock q).tables = { s.tables with mem := (s.runBlock q).mem } := by
  have hwrite : (s.runWriteBlock q).tables = { s.tables with mem := (s.runWriteBlock q).mem } := by
    unfold State.runWriteBlock
    split
    · rfl
    · rw [State.writeWords_frame]
      rfl
  have hread : (s.runReadBlock q).tables = { s.tables with mem := (s.runReadBlock q).mem } := by
    unfold State.runReadBlock
    dsimp only
    split
    · rfl
    · split <;> rfl
  unfold State.runBlock
  split
  · exact hwrite
  · exact hread

/-! ## The trigger table -/

@[simp] theorem State.tables_act (s : State) (k : TrigIx) (i : SlotIx) (a : Action) : (s.act k i a).tables = s.tables := by
  cases a with
  | start =>
    cases h : s.addCredits i 1 with
    | ok t => simpa only [State.act, h] using State.tables_addCredits h
    | error e => simp [State.act, h]
  | arm =>
    cases h : s.arm i with
    | ok t => simpa only [State.act, h] using State.tables_arm h
    | error e => simp [State.act, h]
  | hold =>
    cases h : s.hold? i with
    | some t => simpa only [State.act, h] using State.tables_hold? h
    | none => simp [State.act, h]

/-- An entry that fires writes the trigger table alone (R111). -/
theorem State.tables_fireEntry (s : State) (e : SlotEvent) (k : TrigIx) :
    (s.fireEntry e k).tables = { s.tables with triggers := (s.fireEntry e k).tables.triggers } := by
  unfold State.fireEntry
  split
  · rw [State.tables_act]
    split <;> rfl
  · rfl

theorem State.tables_scan (s : State) (e : SlotEvent) :
    (s.scan e).tables = { s.tables with triggers := (s.scan e).tables.triggers } := by
  unfold State.scan
  generalize List.finRange 32 = ks
  induction ks generalizing s with
  | nil => rw [List.foldl_nil, State.tables_passPoint]
  | cons k ks ih =>
    rw [List.foldl_cons, ih, State.tables_fireEntry, State.tables_passPoint]

/-! ## The line and the transmitter -/

@[simp] theorem State.tables_toHunt (s : State) : s.toHunt.tables = s.tables := rfl

@[simp] theorem State.tables_immediate (s : State) (f : Frame) : (s.immediate f).tables = s.tables := by
  unfold State.immediate
  split <;> rfl

@[simp] theorem State.tables_sortInbox (s : State) (r : Request) : (s.sortInbox r).tables = s.tables := by
  unfold State.sortInbox
  split
  · rfl
  · simp

@[simp] theorem State.tables_sortInUse (s : State) (r : Request) : (s.sortInUse r).tables = s.tables := by
  unfold State.sortInUse
  split
  · split <;> simp
  · simp

@[simp] theorem State.tables_sortCache (s : State) (r : Request) : (s.sortCache r).tables = s.tables := by
  unfold State.sortCache
  split
  · split
    · simp
    · rw [State.tables_sortInUse]
      rfl
  · simp

@[simp] theorem State.tables_checkFrame (s : State) (len : Byte) (kept : List Byte) (low high : Byte) :
    (s.checkFrame len kept low high).tables = s.tables := by
  unfold State.checkFrame
  dsimp only
  split
  · split
    · unfold State.sortFrame
      split <;> simp
    · rfl
  · simp

/-- A delivered byte leaves the tables: of the link it leaves the rate code (R174, R176). -/
@[simp] theorem State.tables_deliverUnlessBreak (s : State) (b : Byte) : (s.deliverUnlessBreak b).tables = s.tables := by
  have hdeliver : (s.deliver b).tables = s.tables := by
    unfold State.deliver
    split
    · split <;> rfl
    · split <;> rfl
    · split <;> rfl
    · rfl
    · simp
  unfold State.deliverUnlessBreak
  split
  · rfl
  · exact hdeliver

@[simp] theorem State.tables_choose (s : State) : s.choose.tables = s.tables := by
  unfold State.choose
  split
  · rfl
  · split <;> rfl

/-! ## The ports and the pace timers -/

@[simp] theorem State.tables_arrive (s : State) (p : PortIx) (w : Word) : (s.arrive p w).tables = s.tables := by
  unfold State.arrive
  split
  · split
    · simp
    · unfold State.overruns
      dsimp only
      split <;> rfl
  · rfl

@[simp] theorem State.tables_takeWord (s : State) (p : PortIx) : (s.takeWord p).tables = s.tables := by
  unfold State.takeWord
  split
  · split
    · split
      · simp
      · unfold State.underruns
        dsimp only
        split <;> rfl
    · rfl
  · rfl

@[simp] theorem State.tables_paceExpires (s : State) (i : SlotIx) : (s.paceExpires i).tables = s.tables := by
  unfold State.paceExpires
  split
  · simp
  · rfl

end Sys2Proof.Machine
end

section
/-! # Which command writes which table (O51) -/

namespace Sys2Proof.Machine

variable {s t u : State} {k : ReqKind} {a b : Tables} {c : Instr}

/-! ## The kinds of row -/

theorem State.tables_of_takeRequest? {r : Request} (h : s.takeRequest? k = some (r, t)) : t.tables = s.tables := by
  obtain ⟨-, -, -, rest, -, -, rfl⟩ := State.takeRequest?_eq_some.mp h
  rfl

/-- A request row takes the tables where its owner takes them: the engine's own steps leave them (R185–R187). -/
theorem serve_tables {R : Tables → Prop} {owner : Request → State → Host.Outcome State Fault Refusal}
    (howner : ∀ {r t u}, t.tables = s.tables → owner r t = .next u → R u.tables) (hs : R s.tables) (h : s.serve k owner = .next u) :
    R u.tables := by
  rcases s.serve_cases k owner with ⟨-, hserve⟩ | ⟨r, t, st, htake, -, hserve⟩ | ⟨r, t, htake, -, hserve⟩
  · cases hserve.symm.trans h
    exact hs
  · cases hserve.symm.trans h
    rwa [State.tables_answer, State.tables_of_takeRequest? htake]
  · exact howner (State.tables_of_takeRequest? htake) (hserve.symm.trans h)

theorem serveNow_tables {R : Tables → Prop} {owner : List Byte → State → State × Reply}
    (howner : ∀ b {t : State}, t.tables = s.tables → R (owner b t).1.tables) (hs : R s.tables) (h : s.serveNow k owner = .next u) :
    R u.tables := by
  refine serve_tables (fun {r t u} ht hu => ?_) hs h
  cases hu
  exact howner r.body ht

theorem serve_keeps_tables {owner : Request → State → Host.Outcome State Fault Refusal}
    (howner : ∀ {r t u}, owner r t = .next u → u.tables = t.tables) (h : s.serve k owner = .next u) : u.tables = s.tables :=
  serve_tables (R := (· = s.tables)) (fun ht hu => (howner hu).trans ht) rfl h

theorem serveNow_keeps_tables {owner : List Byte → State → State × Reply} (howner : ∀ b (t : State), (owner b t).1.tables = t.tables)
    (h : s.serveNow k owner = .next u) : u.tables = s.tables :=
  serveNow_tables (R := (· = s.tables)) (fun b t ht => (howner b t).trans ht) rfl h

/-- A slot request answers RANGE and changes nothing, or acts on its slot (R22). -/
theorem slotRow_keeps_tables {f : List Byte → State → SlotIx → State × Reply} (hf : ∀ b (t : State) i, (f b t i).1.tables = t.tables)
    (h : s.serveNow k (fun b t => withSlot b t (f b t)) = .next u) : u.tables = s.tables := by
  refine serveNow_keeps_tables (fun b t => ?_) h
  unfold withSlot
  split
  · rfl
  · exact hf b t _

theorem whenRunning_keeps_tables {f : State → State} (hf : ∀ t : State, (f t).tables = t.tables) (h : s.whenRunning f = .next u) :
    u.tables = s.tables :=
  State.whenRunning_keeps (P := fun t => t.tables = s.tables) (fun {t} ht => (hf t).trans ht) rfl h

theorem State.tables_of_answered {r : Request} {rep : Reply}
    (h : (Host.Outcome.next (t.answer r rep) : Host.Outcome State Fault Refusal) = .next u) : u.tables = t.tables := by
  cases h
  rfl

/-! ## The rows that leave the tables -/

theorem tables_execHello (h : execHello s = .next u) : u.tables = s.tables := serveNow_keeps_tables (fun _ _ => rfl) h

theorem tables_execLinkStatus (h : execLinkStatus s = .next u) : u.tables = s.tables :=
  serveNow_keeps_tables (fun b t => by dsimp only; split <;> rfl) h

theorem tables_execEngineReset (h : execEngineReset s = .next u) : u.tables = s.tables := by
  refine serve_keeps_tables (fun {r t u} hu => ?_) h
  split at hu <;> cases hu
  · rfl
  · exact t.tables_engineReset r

theorem State.tables_startBlock (s : State) (r : Request) (o : AskOrder) : (s.startBlock r o).tables = s.tables := by
  simp [State.startBlock]

theorem tables_execBufWrite {o : AskOrder} (h : execBufWrite o s = .next u) : u.tables = s.tables := by
  refine serve_keeps_tables (fun {r t u} hu => ?_) h
  split at hu
  · cases hu
    exact t.tables_startBlock r o
  · exact State.tables_of_answered hu

theorem tables_execBufRead {o : AskOrder} (h : execBufRead o s = .next u) : u.tables = s.tables := by
  refine serve_keeps_tables (fun {r t u} hu => ?_) h
  split at hu
  · split at hu
    · cases hu
      exact t.tables_startBlock r o
    · exact State.tables_of_answered hu
  · exact State.tables_of_answered hu

theorem tables_execFenceRead (h : execFenceRead s = .next u) : u.tables = s.tables :=
  serveNow_keeps_tables (fun b t => by split <;> rfl) h

theorem tables_execLegRead (h : execLegRead s = .next u) : u.tables = s.tables :=
  serveNow_keeps_tables (fun b t => by split <;> rfl) h

theorem tables_execTrigRead (h : execTrigRead s = .next u) : u.tables = s.tables :=
  serveNow_keeps_tables (fun b t => by split <;> rfl) h

theorem tables_execSlotQuery (h : execSlotQuery s = .next u) : u.tables = s.tables := slotRow_keeps_tables (fun _ _ _ => rfl) h

theorem tables_execSlotSetup (h : execSlotSetup s = .next u) : u.tables = s.tables := by
  refine slotRow_keeps_tables (fun b t i => ?_) h
  split
  · rfl
  · split
    · split <;> rfl
    · rfl

theorem tables_execSlotArm (h : execSlotArm s = .next u) : u.tables = s.tables := by
  refine slotRow_keeps_tables (fun b t i => ?_) h
  split
  · next harm => exact State.tables_arm harm
  · rfl

theorem tables_execSlotStart (h : execSlotStart s = .next u) : u.tables = s.tables := by
  refine slotRow_keeps_tables (fun b t i => ?_) h
  split
  · split
    · next hadd => exact State.tables_addCredits hadd
    · rfl
  · rfl

theorem tables_execSlotHold (h : execSlotHold s = .next u) : u.tables = s.tables := by
  refine slotRow_keeps_tables (fun b t i => ?_) h
  split
  · next hhold => exact State.tables_hold? hhold
  · rfl

theorem tables_execSlotResume (h : execSlotResume s = .next u) : u.tables = s.tables := by
  refine serve_keeps_tables (fun {r t u} hu => ?_) h
  split at hu
  · exact State.tables_of_answered hu
  · split at hu
    · exact (State.tables_of_answered hu).trans (by simp)
    · split at hu
      · exact (State.tables_of_answered hu).trans (by simp)
      · exact State.tables_of_answered hu
    · split at hu
      · exact (State.tables_of_answered hu).trans (by simp)
      · exact State.tables_of_answered hu
    · split at hu
      · next hresumed => exact (State.tables_of_answered hu).trans (State.tables_resumeFaulted hresumed)
      · exact State.tables_of_answered hu
      · cases hu
    · exact State.tables_of_answered hu

theorem tables_execSlotCancel (h : execSlotCancel s = .next u) : u.tables = s.tables := by
  refine serve_keeps_tables (fun {r t u} hu => ?_) h
  split at hu
  · exact State.tables_of_answered hu
  · split at hu
    · exact State.tables_of_answered hu
    · cases hu
      rfl
    · exact (State.tables_of_answered hu).trans (t.tables_cancelAtOnce _)

theorem tables_execPortSetup (h : execPortSetup s = .next u) : u.tables = s.tables := by
  refine serveNow_keeps_tables (fun b t => ?_) h
  split
  · rfl
  · split
    · rfl
    · split
      · split
        · rfl
        · simp
      · rfl

theorem tables_execPortQuery (h : execPortQuery s = .next u) : u.tables = s.tables := by
  refine serveNow_keeps_tables (fun b t => ?_) h
  split
  · rfl
  · dsimp only
    split <;> rfl

theorem tables_execReportAck (h : execReportAck s = .next u) : u.tables = s.tables :=
  serveNow_keeps_tables (fun b t => by split <;> rfl) h

theorem tables_execReportReplay (h : execReportReplay s = .next u) : u.tables = s.tables :=
  serveNow_keeps_tables (fun b t => by split <;> rfl) h

theorem tables_execReportGate (h : execReportGate s = .next u) : u.tables = s.tables := serveNow_keeps_tables (fun _ _ => rfl) h

theorem tables_execFrameReceived {b : Byte} (h : execFrameReceived b s = .next u) : u.tables = s.tables :=
  whenRunning_keeps_tables (fun t => by split <;> simp) h

theorem tables_execLengthError {b : Byte} (h : execLengthError b s = .next u) : u.tables = s.tables :=
  whenRunning_keeps_tables (fun t => by split <;> simp) h

theorem tables_execGapTimeout (h : execGapTimeout s = .next u) : u.tables = s.tables :=
  whenRunning_keeps_tables (fun t => by split <;> rfl) h

theorem tables_execLineBreak (h : execLineBreak s = .next u) : u.tables = s.tables :=
  whenRunning_keeps_tables (fun t => by split <;> rfl) h

theorem tables_execLineHighAfterBreak (h : execLineHighAfterBreak s = .next u) : u.tables = s.tables :=
  whenRunning_keeps_tables (f := fun t => t.updLink fun k => { k with breakHeld := false })
    (fun _ => rfl) h

theorem tables_execTransmitReply (h : execTransmitReply s = .next u) : u.tables = s.tables :=
  whenRunning_keeps_tables (fun t => by split <;> rfl) h

theorem tables_execTransmitReport (h : execTransmitReport s = .next u) : u.tables = s.tables :=
  whenRunning_keeps_tables (fun t => by split <;> rfl) h

theorem tables_execFrameSent (h : execFrameSent s = .next u) : u.tables = s.tables := by
  refine whenRunning_keeps_tables (fun t => ?_) h
  split
  · exact State.tables_choose _
  · rfl

/-! ## The rows that write a table -/

/-- What a command may write of the tables: nothing, or what the command's row names. -/
inductive Writes : Instr → Tables → Tables → Prop
  | nothing (c : Instr) (a : Tables) : Writes c a a
  | powerReset (a b : Tables) : Writes .powerReset a b
  | resetRelease (straps : BitVec 2) (a : Tables) (rate : BitVec 2) (phase : Phase) :
      Writes (.resetRelease straps) a { a with rate := rate, phase := phase }
  | startUpEnd (a : Tables) (mem : List (Nat × BufWord)) (phase : Phase) : Writes .startUpEnd a { a with mem := mem, phase := phase }
  | upset (x : Upset) (a : Tables) (mem : List (Nat × BufWord)) : Writes (.upset x) a { a with mem := mem }
  | upsetInStartUp (x : Upset) (a : Tables) (mem : List (Nat × BufWord)) (phase : Phase) (n : Nat) : a.phase = .startUp n →
      Writes (.upset x) a { a with mem := mem, phase := phase }
  | element (o : ElementOrder) (a : Tables) (mem : List (Nat × BufWord)) : Writes (.element o) a { a with mem := mem }
  | hostBlockGrant (a : Tables) (mem : List (Nat × BufWord)) : Writes .hostBlockGrant a { a with mem := mem }
  | fenceSet (a : Tables) (fences : Vector Fence 8) : Writes .fenceSet a { a with fences := fences }
  | trigSet (a : Tables) (triggers : Vector Trigger 32) : Writes .trigSet a { a with triggers := triggers }
  | triggerEvent (a : Tables) (triggers : Vector Trigger 32) : Writes .triggerEvent a { a with triggers := triggers }
  | legLoad (a : Tables) (record : LegIx → Option LegRecord) : Writes .legLoad a { a with record := record }
  | legLink (a : Tables) (record : LegIx → Option LegRecord) : Writes .legLink a { a with record := record }

theorem Writes.of_eq (h : b = a) : Writes c a b := h ▸ .nothing c a

theorem writes_execResetRelease {straps : BitVec 2} (h : execResetRelease straps s = .next u) :
    Writes (.resetRelease straps) s.tables u.tables := by
  cases h
  split
  · exact .resetRelease straps s.tables straps (.startUp 0)
  · exact .nothing _ _

theorem writes_execStartUpEnd (h : execStartUpEnd s = .next u) : Writes .startUpEnd s.tables u.tables := by
  cases h
  split
  · exact .startUpEnd s.tables _ .running
  · exact .nothing _ _

theorem writes_execUpset {x : Upset} (h : execUpset x s = .next u) : Writes (.upset x) s.tables u.tables := by
  unfold execUpset at h
  split at h <;> cases h
  · next n hphase => exact .upsetInStartUp x s.tables _ _ n hphase
  · exact .upset x s.tables _

theorem writes_execElement {o : ElementOrder} (h : execElement o s = .next u) : Writes (.element o) s.tables u.tables := by
  rw [tables_execElement h]
  exact .element o s.tables _

theorem writes_execHostBlockGrant (h : execHostBlockGrant s = .next u) : Writes .hostBlockGrant s.tables u.tables := by
  have hmem : u.tables = { s.tables with mem := u.tables.mem } := by
    refine State.whenRunning_keeps (P := fun t => t.tables = { s.tables with mem := t.tables.mem }) (fun {t} ht => ?_) rfl h
    split
    · next e _ =>
      split
      · refine (t.tables_runBlock e.request).trans ?_
        rw [ht]
        rfl
      · exact ht
    · exact ht
  rw [hmem]
  exact .hostBlockGrant s.tables _

theorem writes_execTriggerEvent (h : execTriggerEvent s = .next u) : Writes .triggerEvent s.tables u.tables := by
  have htriggers : u.tables = { s.tables with triggers := u.tables.triggers } := by
    refine State.whenRunning_keeps (P := fun t => t.tables = { s.tables with triggers := t.tables.triggers }) (fun {t} ht => ?_) rfl h
    split
    · exact ht
    · next e rest _ =>
      have htaken : State.tables { t with events := rest } = t.tables := rfl
      rw [State.tables_scan, htaken, ht]
  rw [htriggers]
  exact .triggerEvent s.tables _

theorem writes_execFenceSet (h : execFenceSet s = .next u) : Writes .fenceSet s.tables u.tables := by
  have hfences : u.tables = { s.tables with fences := u.tables.fences } := by
    refine serveNow_tables (R := fun b => b = { s.tables with fences := b.fences }) (fun b {t} ht => ?_) rfl h
    rw [← ht]
    split
    · rfl
    · split <;> rfl
  rw [hfences]
  exact .fenceSet s.tables _

theorem writes_execTrigSet (h : execTrigSet s = .next u) : Writes .trigSet s.tables u.tables := by
  have htriggers : u.tables = { s.tables with triggers := u.tables.triggers } := by
    refine serveNow_tables (R := fun b => b = { s.tables with triggers := b.triggers }) (fun b {t} ht => ?_) rfl h
    rw [← ht]
    split
    · rfl
    · split <;> rfl
  rw [htriggers]
  exact .trigSet s.tables _

theorem writes_execLegLoad (h : execLegLoad s = .next u) : Writes .legLoad s.tables u.tables := by
  have hrecord : u.tables = { s.tables with record := u.tables.record } := by
    refine serveNow_tables (R := fun b => b = { s.tables with record := b.record }) (fun b {t} ht => ?_) rfl h
    rw [← ht]
    split
    · rfl
    · split
      · rfl
      · split <;> rfl
  rw [hrecord]
  exact .legLoad s.tables _

theorem writes_execLegLink (h : execLegLink s = .next u) : Writes .legLink s.tables u.tables := by
  have hrecord : u.tables = { s.tables with record := u.tables.record } := by
    refine serveNow_tables (R := fun b => b = { s.tables with record := b.record }) (fun b {t} ht => ?_) rfl h
    rw [← ht]
    split
    · rfl
    · split
      · rfl
      · split <;> rfl
  rw [hrecord]
  exact .legLink s.tables _

/-! ## Every command -/

theorem exec_writes (h : exec c s = .next u) : Writes c s.tables u.tables := by
  cases c with
  | powerReset => exact .powerReset _ _
  | resetRelease straps => exact writes_execResetRelease h
  | startUpEnd => exact writes_execStartUpEnd h
  | upset x => exact writes_execUpset h
  | element o => exact writes_execElement h
  | hostBlockGrant => exact writes_execHostBlockGrant h
  | fenceSet => exact writes_execFenceSet h
  | trigSet => exact writes_execTrigSet h
  | triggerEvent => exact writes_execTriggerEvent h
  | legLoad => exact writes_execLegLoad h
  | legLink => exact writes_execLegLink h
  | frameReceived b => exact .of_eq (tables_execFrameReceived h)
  | lengthError b => exact .of_eq (tables_execLengthError h)
  | byteDelivered b => exact .of_eq (whenRunning_keeps_tables (fun t => t.tables_deliverUnlessBreak b) h)
  | gapTimeout => exact .of_eq (tables_execGapTimeout h)
  | lineBreak => exact .of_eq (tables_execLineBreak h)
  | lineHighAfterBreak => exact .of_eq (tables_execLineHighAfterBreak h)
  | transmitReply => exact .of_eq (tables_execTransmitReply h)
  | transmitReport => exact .of_eq (tables_execTransmitReport h)
  | frameSent => exact .of_eq (tables_execFrameSent h)
  | hello => exact .of_eq (tables_execHello h)
  | linkStatus => exact .of_eq (tables_execLinkStatus h)
  | engineReset => exact .of_eq (tables_execEngineReset h)
  | bufWrite o => exact .of_eq (tables_execBufWrite h)
  | bufRead o => exact .of_eq (tables_execBufRead h)
  | fenceRead => exact .of_eq (tables_execFenceRead h)
  | legRead => exact .of_eq (tables_execLegRead h)
  | slotSetup => exact .of_eq (tables_execSlotSetup h)
  | slotArm => exact .of_eq (tables_execSlotArm h)
  | slotStart => exact .of_eq (tables_execSlotStart h)
  | slotHold => exact .of_eq (tables_execSlotHold h)
  | slotResume => exact .of_eq (tables_execSlotResume h)
  | slotCancel => exact .of_eq (tables_execSlotCancel h)
  | slotQuery => exact .of_eq (tables_execSlotQuery h)
  | trigRead => exact .of_eq (tables_execTrigRead h)
  | portSetup => exact .of_eq (tables_execPortSetup h)
  | portQuery => exact .of_eq (tables_execPortQuery h)
  | wordArrival p w => exact .of_eq (whenRunning_keeps_tables (fun t => t.tables_arrive p w) h)
  | wordTake p => exact .of_eq (whenRunning_keeps_tables (fun t => t.tables_takeWord p) h)
  | reportAck => exact .of_eq (tables_execReportAck h)
  | reportReplay => exact .of_eq (tables_execReportReplay h)
  | reportGate => exact .of_eq (tables_execReportGate h)
  | paceExpiry i => exact .of_eq (whenRunning_keeps_tables (fun t => t.tables_paceExpires i) h)

/-! ## What a command leaves of each table -/

theorem Writes.mem_eq (h : Writes c a b) (hstart : c ≠ .startUpEnd) (hupset : ∀ x, c ≠ .upset x) (helement : ∀ o, c ≠ .element o)
    (hreset : c ≠ .powerReset) (hblock : c ≠ .hostBlockGrant) : b.mem = a.mem := by
  cases h with
  | powerReset => exact absurd rfl hreset
  | startUpEnd => exact absurd rfl hstart
  | upset x | upsetInStartUp x => exact absurd rfl (hupset x)
  | element o => exact absurd rfl (helement o)
  | hostBlockGrant => exact absurd rfl hblock
  | _ => rfl

theorem Writes.fences_eq (h : Writes c a b) (hreset : c ≠ .powerReset) (hset : c ≠ .fenceSet) : b.fences = a.fences := by
  cases h with
  | powerReset => exact absurd rfl hreset
  | fenceSet => exact absurd rfl hset
  | _ => rfl

theorem Writes.triggers_eq (h : Writes c a b) (hreset : c ≠ .powerReset) (hset : c ≠ .trigSet) (hevent : c ≠ .triggerEvent) :
    b.triggers = a.triggers := by
  cases h with
  | powerReset => exact absurd rfl hreset
  | trigSet => exact absurd rfl hset
  | triggerEvent => exact absurd rfl hevent
  | _ => rfl

theorem Writes.record_eq (h : Writes c a b) (hreset : c ≠ .powerReset) (hload : c ≠ .legLoad) (hlink : c ≠ .legLink) :
    b.record = a.record := by
  cases h with
  | powerReset => exact absurd rfl hreset
  | legLoad => exact absurd rfl hload
  | legLink => exact absurd rfl hlink
  | _ => rfl

theorem Writes.rate_eq (h : Writes c a b) (hreset : c ≠ .powerReset) (hrelease : ∀ x, c ≠ .resetRelease x) : b.rate = a.rate := by
  cases h with
  | powerReset => exact absurd rfl hreset
  | resetRelease x => exact absurd rfl (hrelease x)
  | _ => rfl

/-- Of the upsets one in start-up alone moves the phase: it says how far start-up has come (R144). -/
theorem Writes.phase_eq (h : Writes c a b) (hreset : c ≠ .powerReset) (hrelease : ∀ x, c ≠ .resetRelease x) (hstart : c ≠ .startUpEnd)
    (hupset : (∀ x, c ≠ .upset x) ∨ ∀ n, a.phase ≠ .startUp n) : b.phase = a.phase := by
  cases h with
  | powerReset => exact absurd rfl hreset
  | resetRelease x => exact absurd rfl (hrelease x)
  | startUpEnd => exact absurd rfl hstart
  | upsetInStartUp x _ _ _ n hphase =>
    rcases hupset with hupset | hupset
    · exact absurd rfl (hupset x)
    · exact absurd hphase (hupset n)
  | _ => rfl

end Sys2Proof.Machine

namespace Sys2Proof

open Machine

/-- Settles O51: a command writes of the tables what its row names, and so leaves the others. -/
theorem onlyTheseCommandsWriteTheStores : Obligations.OnlyTheseCommandsWriteTheStores := by
  intro c s t h
  have hw := exec_writes h
  refine ⟨fun hstart hupset helement hreset hblock a => ?_, hw.fences_eq, hw.triggers_eq,
    fun hreset hload hlink l => congrFun (hw.record_eq hreset hload hlink) l,
    fun hreset hrelease => ⟨hw.rate_eq hreset hrelease, hw.phase_eq hreset hrelease⟩⟩
  exact congrArg (memRead · a.toNat) (hw.mem_eq hstart hupset helement hreset hblock)

end Sys2Proof
end

section
/-! # The report queue and its law (O52)

`ReportQueue.Move` lists every way a command can change the report queue: a report reaches it, an acknowledgement, a replay, a gate, a
report sent, and the two resets. The law of the queue (R161) is kept by each of them. -/

namespace Sys2Proof.Machine

open Relation (ReflTransGen)

variable {q q' : ReportQueue} {n : Nat}

/-! ## The law, without LOST

Between the two steps of an acknowledgement LOST may stand above 0 while the queue holds fewer than 32 reports, so the part of the law
that does not speak of LOST stands apart. -/

/-- At most 32 reports with consecutive numbers that end just below NEXT-SEQ, and a send position within the queue or at its end (R161). -/
structure ReportQueue.InOrder (q : ReportQueue) : Prop where
  length_le : q.queue.length ≤ 32
  sendPos_le : q.sendPos ≤ q.queue.length
  seq : ∀ k (h : k < q.queue.length), q.queue[k].seq + BitVec.ofNat 16 (q.queue.length - k) = q.nextSeq

theorem ReportQueue.reportLaw_iff :
    ReportLaw q ↔ q.InOrder ∧ q.lost ≤ 65535 ∧ (0 < q.lost → q.queue.length = 32) := by
  constructor
  · rintro ⟨hlength, hpos, hle, hlost, hseq⟩
    exact ⟨⟨hlength, hpos, fun k hk => hseq ⟨k, hk⟩⟩, hle, hlost⟩
  · rintro ⟨⟨hlength, hpos, hseq⟩, hle, hlost⟩
    exact ⟨hlength, hpos, hle, hlost, fun k => hseq k.val k.isLt⟩

/-- The queue with LOST 0 is within the law as soon as it is in order. -/
theorem ReportQueue.InOrder.reportLaw (h : q.InOrder) (hlost : q.lost = 0) : ReportLaw q :=
  reportLaw_iff.mpr ⟨h, by omega, by omega⟩

/-- Appending a report below 32 moves every other one place further from NEXT-SEQ, which rises by 1 (R160). -/
theorem ReportQueue.InOrder.append (h : q.InOrder) (hroom : q.queue.length < 32) (b : ReportBody) :
    ReportQueue.InOrder
      { q with queue := q.queue ++ [{ seq := q.nextSeq, body := b, sent := false }], nextSeq := q.nextSeq + 1 } where
  length_le := by simpa using hroom
  sendPos_le := by simpa using Nat.le_succ_of_le h.sendPos_le
  seq k hk := by
    simp only [List.length_append, List.length_singleton] at hk ⊢
    rcases Nat.lt_or_ge k q.queue.length with hlt | hge
    · have hnext := h.seq k hlt
      rw [List.getElem_append_left hlt, show q.queue.length + 1 - k = q.queue.length - k + 1 by omega, BitVec.ofNat_add,
        ← BitVec.add_assoc, hnext]
      rfl
    · obtain rfl : k = q.queue.length := by omega
      rw [List.getElem_append_right (Nat.le_refl _)]
      simp

/-- What is left after the reports through place n have gone keeps its distance from NEXT-SEQ (R165). -/
theorem ReportQueue.InOrder.removeThrough (h : q.InOrder) (n : Nat) : (q.removeThrough n).InOrder where
  length_le := by
    have := h.length_le
    simp only [ReportQueue.removeThrough, List.length_drop]
    omega
  sendPos_le := by
    have := h.sendPos_le
    simp only [ReportQueue.removeThrough, List.length_drop]
    omega
  seq k hk := by
    simp only [ReportQueue.removeThrough, List.length_drop] at hk ⊢
    rw [List.getElem_drop, show q.queue.length - (n + 1) - k = q.queue.length - (n + 1 + k) by omega]
    exact h.seq _ (by omega)

@[simp] theorem ReportQueue.length_removeThrough (q : ReportQueue) (n : Nat) :
    (q.removeThrough n).queue.length = q.queue.length - (n + 1) := List.length_drop

/-! ## Step 2 of an acknowledgement (R165) -/

/-- With LOST 0 there is no LOSS to report. -/
theorem ReportQueue.reportLoss_of_lost_eq_zero (h : q.lost = 0) : q.reportLoss = q := by
  rw [ReportQueue.reportLoss, if_neg (by omega)]

theorem ReportQueue.take_of_room (hroom : q.queue.length < 32) (b : ReportBody) :
    q.take b = { q with queue := q.queue ++ [{ seq := q.nextSeq, body := b, sent := false }], nextSeq := q.nextSeq + 1 } :=
  if_pos hroom

theorem ReportQueue.take_of_full (hfull : 32 ≤ q.queue.length) (b : ReportBody) : q.take b = { q with lost := bump q.lost } :=
  if_neg (Nat.not_lt.mpr hfull)

/-- Below 32 reports the LOSS report is appended as NEXT-SEQ. -/
theorem ReportQueue.reportLoss_of_lost_pos (hlost : 0 < q.lost) (hroom : q.queue.length < 32) :
    q.reportLoss =
      { q with
        queue := q.queue ++ [{ seq := q.nextSeq, body := .loss q.lost, sent := false }], nextSeq := q.nextSeq + 1, lost := 0 } := by
  rw [ReportQueue.reportLoss, if_pos hlost, ReportQueue.take_of_room hroom]

theorem ReportQueue.InOrder.reportLaw_reportLoss (h : q.InOrder) (hroom : q.queue.length < 32) : ReportLaw q.reportLoss := by
  rcases Nat.eq_zero_or_pos q.lost with hlost | hlost
  · rw [ReportQueue.reportLoss_of_lost_eq_zero hlost]
    exact h.reportLaw hlost
  · rw [ReportQueue.reportLoss_of_lost_pos hlost hroom]
    obtain ⟨hlength, hpos, hseq⟩ := h.append hroom (.loss q.lost)
    exact ReportQueue.InOrder.reportLaw ⟨hlength, hpos, hseq⟩ rfl

/-! ## The moves -/

/-- One change of the report queue. -/
inductive ReportQueue.Move (q : ReportQueue) : ReportQueue → Prop
  /-- a report reaches the queue (R160) -/
  | takes (b : ReportBody) : Move q (q.take b)
  /-- the reports through place n are acknowledged (R165) -/
  | acknowledges (n : Nat) : n < q.queue.length → Move q (q.removeThrough n).reportLoss
  /-- the send position moves to a report of the queue (R168) -/
  | replays (n : Nat) : n < q.queue.length → Move q { q with sendPos := n }
  /-- GATE (R169) -/
  | gates (g : Bool) : Move q { q with gateOpen := g }
  /-- the report at the send position is taken by the transmitter (R163) -/
  | sends : q.sendPos < q.queue.length → Move q { q with queue := markSent q.queue q.sendPos, sendPos := q.sendPos + 1 }
  /-- RESET goes low (R195) -/
  | powerReset : Move q ReportQueue.initial
  /-- ENGINE-RESET (R171, R193) -/
  | engineReset : Move q (ReportQueue.afterReset .request)

theorem ReportQueue.reportLaw_initial : ReportLaw ReportQueue.initial := by decide

theorem ReportQueue.reportLaw_take (h : ReportLaw q) (b : ReportBody) : ReportLaw (q.take b) := by
  obtain ⟨horder, hle, hlost⟩ := reportLaw_iff.mp h
  rcases q.take_cases b with ⟨hroom, htake⟩ | ⟨hfull, htake⟩
  · rw [htake]
    exact (horder.append hroom b).reportLaw (by dsimp only; omega)
  · obtain ⟨hlength, hpos, hseq⟩ := horder
    rw [htake]
    exact reportLaw_iff.mpr ⟨⟨hlength, hpos, hseq⟩, bump_le hle, fun _ => Nat.le_antisymm hlength hfull⟩

/-- The transmitter's take sets a flag: no report leaves and no number changes (R163). -/
theorem ReportQueue.reportLaw_sends (h : ReportLaw q) (hpos : q.sendPos < q.queue.length) :
    ReportLaw { q with queue := markSent q.queue q.sendPos, sendPos := q.sendPos + 1 } := by
  obtain ⟨⟨hlength, -, hseq⟩, hle, hlost⟩ := reportLaw_iff.mp h
  have hmarked : (markSent q.queue q.sendPos).length = q.queue.length := List.length_modify _ _ _
  refine reportLaw_iff.mpr ⟨⟨hmarked ▸ hlength, hmarked ▸ hpos, fun k hk => ?_⟩, hle, fun hl => hmarked.trans (hlost hl)⟩
  have hnumber : (markSent q.queue q.sendPos)[k].seq = (q.queue[k]'(hmarked ▸ hk)).seq := by
    simp only [markSent, List.getElem_modify]
    split <;> rfl
  simp only [hnumber, hmarked]
  exact hseq k _

theorem ReportQueue.Move.reportLaw (h : q.Move q') (hq : ReportLaw q) : ReportLaw q' := by
  obtain ⟨⟨hlength, hpos, hseq⟩, hlost⟩ := ReportQueue.reportLaw_iff.mp hq
  cases h with
  | takes b => exact ReportQueue.reportLaw_take hq b
  | acknowledges n hn =>
    have horder : q.InOrder := ⟨hlength, hpos, hseq⟩
    exact (horder.removeThrough n).reportLaw_reportLoss (by rw [ReportQueue.length_removeThrough]; omega)
  | replays n hn => exact ReportQueue.reportLaw_iff.mpr ⟨⟨hlength, hn.le, hseq⟩, hlost⟩
  | gates g => exact ReportQueue.reportLaw_iff.mpr ⟨⟨hlength, hpos, hseq⟩, hlost⟩
  | sends hn => exact ReportQueue.reportLaw_sends hq hn
  | powerReset => exact ReportQueue.reportLaw_initial
  | engineReset => exact ReportQueue.reportLaw_take ReportQueue.reportLaw_initial _

/-- A chain of changes. -/
abbrev ReportQueue.Moves : ReportQueue → ReportQueue → Prop := ReflTransGen ReportQueue.Move

theorem ReportQueue.Moves.reportLaw (h : q.Moves q') (hq : ReportLaw q) : ReportLaw q' := by
  induction h with
  | refl => exact hq
  | tail _ hmove ih => exact hmove.reportLaw ih

/-! ## The place of a report (R161) -/

/-- The first report with a number, where the queue is split at it. -/
theorem ReportQueue.place?_of_split {s : Seq} {front back : List Report} {x : Report} (hq : q.queue = front ++ x :: back)
    (hx : x.seq = s) (hfront : ∀ y ∈ front, y.seq ≠ s) : q.place? s = some front.length := by
  have hnone : front.findIdx? (fun r => decide (r.seq = s)) = none :=
    List.findIdx?_eq_none_iff.mpr fun y hy => by simpa using hfront y hy
  simp [ReportQueue.place?, hq, List.findIdx?_append, hnone, List.findIdx?_cons, hx]

theorem ReportQueue.place?_eq_none {s : Seq} (h : ∀ x ∈ q.queue, x.seq ≠ s) : q.place? s = none :=
  List.findIdx?_eq_none_iff.mpr fun y hy => by simpa using h y hy

/-- A place lies in the queue. -/
theorem ReportQueue.lt_of_place? {s : Seq} (h : q.place? s = some n) : n < q.queue.length :=
  (List.findIdx?_eq_some_iff_getElem.mp h).1

theorem ReportQueue.lt_of_sentPlace? {s : Seq} (h : q.sentPlace? s = some n) : n < q.queue.length := by
  unfold ReportQueue.sentPlace? at h
  split at h
  · next hplace =>
    split at h <;> cases h
    exact ReportQueue.lt_of_place? hplace
  · cases h

end Sys2Proof.Machine
end

section
/-! # What the operations do to the report queue (O52)

`State.ReportMoves s t` says that t has the report queue of s after a chain of changes of `ReportQueue.Move`. Of the operations of the
transfer side most leave the queue by their frame; the others send reports, and ENGINE-RESET starts the queue anew. -/

namespace Sys2Proof.Machine

open Relation (ReflTransGen)

variable {s t u : State} {i : SlotIx} {l : LegIx} {snap : Snapshot} {r : LegRecord}

/-- The report queue of t is reached from that of s by a chain of its changes. -/
def State.ReportMoves (s t : State) : Prop := s.reports.Moves t.reports

theorem State.ReportMoves.trans (hst : s.ReportMoves t) (htu : t.ReportMoves u) : s.ReportMoves u := ReflTransGen.trans hst htu

/-- An operation that leaves the report queue as it was. -/
theorem State.ReportMoves.of_eq (h : t.reports = s.reports) : s.ReportMoves t := by
  rw [State.ReportMoves, h]

theorem State.ReportMoves.refl (s : State) : s.ReportMoves s := .of_eq rfl

theorem State.ReportMoves.of_move {q : ReportQueue} (h : s.reports.Move q) (ht : t.reports = q) : s.ReportMoves t :=
  ReflTransGen.single (ht ▸ h)

/-- An operation that sends one report. -/
theorem State.ReportMoves.of_take {b : ReportBody} (h : t.reports = s.reports.take b) : s.ReportMoves t := .of_move (.takes b) h

theorem State.OnlyLink.reportMoves (h : s.OnlyLink t) : s.ReportMoves t := by
  obtain ⟨k, rfl⟩ := h
  exact .of_eq rfl

/-! ## Holds, faults, leg ends and the commit -/

theorem State.reportMoves_becomeHeld (s : State) (i : SlotIx) (l : LegIx) : s.ReportMoves (s.becomeHeld i l) := .of_take rfl

theorem State.reportMoves_hold? (h : s.hold? i = some t) : s.ReportMoves t := by
  unfold State.hold? at h
  split at h <;> cases h
  · exact .of_take rfl
  · exact .of_take rfl
  · exact .of_take rfl
  · exact .of_eq rfl
  · exact .of_eq rfl
  · exact .refl s

theorem State.reportMoves_enterFaulted (s : State) (i : SlotIx) (l : LegIx) (c : FaultCause) (e : Nat) :
    s.ReportMoves (s.enterFaulted i l c e) := by
  unfold State.enterFaulted
  dsimp only
  split
  · exact .of_eq rfl
  · exact .of_take (b := .fault i { cause := c, leg := l, remaining := (s.slot i).remaining, element := e }) (by simp)

theorem State.reportMoves_chainEnds (s : State) (i : SlotIx) (l : LegIx) : s.ReportMoves (s.chainEnds i l) :=
  .of_take (b := .chainEnd i l (s.slot i).credits) (by simp [State.chainEnds])

theorem State.reportMoves_entersNext (s : State) (i : SlotIx) (l : LegIx) (r : LegRecord) (n : LegIx) (rn : LegRecord)
    (atCommit : Bool) : s.ReportMoves (s.entersNext i l r n rn atCommit) := by
  unfold State.entersNext
  dsimp only
  split
  · exact .of_take rfl
  · exact .of_eq (by simp)

theorem State.reportMoves_legEndStep3 (s : State) (i : SlotIx) (l : LegIx) (r : LegRecord) (atCommit : Bool) :
    s.ReportMoves (s.legEndStep3 i l r atCommit) := by
  unfold State.legEndStep3
  split
  · exact s.reportMoves_chainEnds i l
  · split
    · split
      · exact s.reportMoves_entersNext i l r _ _ atCommit
      · exact s.reportMoves_enterFaulted i l _ _
    · exact s.reportMoves_enterFaulted i l _ _

theorem State.reportMoves_legEndStep2 (s : State) (i : SlotIx) (l : LegIx) (r : LegRecord) (atCommit : Bool) :
    s.ReportMoves (s.legEndStep2 i l r atCommit) := by
  have hpass (t : State) : t.ReportMoves ((t.pass .legEnd i).legEndStep3 i l r atCommit) :=
    (State.ReportMoves.of_eq (by simp)).trans (State.reportMoves_legEndStep3 _ i l r atCommit)
  unfold State.legEndStep2
  dsimp only
  split
  · exact (State.ReportMoves.of_take rfl).trans (hpass _)
  · exact hpass s

theorem State.reportMoves_legEndStep1 (s : State) (i : SlotIx) (l : LegIx) (r : LegRecord) :
    s.ReportMoves (s.legEndStep1 i l r) := by
  unfold State.legEndStep1
  split
  · exact s.reportMoves_enterFaulted i l _ _
  · exact s.reportMoves_legEndStep2 i l r true

theorem State.reportMoves_markStep (s : State) (i : SlotIx) (l : LegIx) (r : LegRecord) : s.ReportMoves (s.markStep i l r) := by
  unfold State.markStep
  split
  · exact .of_take (b := .mark i l r.mark) (by simp)
  · exact .refl s

theorem State.reportMoves_afterBurst (s : State) (i : SlotIx) (l : LegIx) (r : LegRecord) : s.ReportMoves (s.afterBurst i l r) := by
  unfold State.afterBurst
  split
  · exact s.reportMoves_legEndStep1 i l r
  · split
    · exact s.reportMoves_becomeHeld i l
    · exact .of_eq (by simp)

theorem State.reportMoves_commit (s : State) (i : SlotIx) (l : LegIx) (r : LegRecord) : s.ReportMoves (s.commit i l r) := by
  have hsettle : s.ReportMoves (((s.settleCommit l).updSlot i fun x => x.burstDone r).setMover (.releasing 0 0)) := .of_eq (by simp)
  exact ((hsettle.trans (State.reportMoves_markStep _ i l r)).trans (.of_eq (by simp))).trans (State.reportMoves_afterBurst _ i l r)

theorem State.reportMoves_resumeFaulted {cause : FaultCause} (h : s.resumeFaulted i l cause = .done t) : s.ReportMoves t := by
  cases cause with
  | fenceRead _ | fenceWrite _ | parity _ =>
    simp only [State.resumeFaulted] at h
    split at h <;> cases h
    exact .of_eq (by simp)
  | digest _ _ =>
    simp only [State.resumeFaulted] at h
    split at h <;> cases h
    exact s.reportMoves_legEndStep2 i l _ false
  | leg =>
    simp only [State.resumeFaulted] at h
    split at h <;> cases h
    exact s.reportMoves_legEndStep3 i l _ false

/-! ## Cancels, the release and ENGINE-RESET -/

theorem State.reportMoves_idleFrom (s : State) (i : SlotIx) (l : LegIx) (e : Nat) : s.ReportMoves (s.idleFrom i l e) := .of_take rfl

theorem State.reportMoves_cancelSuspended (s : State) (i : SlotIx) (l : LegIx) : s.ReportMoves (s.cancelSuspended i l) := by
  have hidle (u : State) (hu : u.reports = s.reports) (st : List Suspended) (e : Nat) :
      s.ReportMoves ((u.setStack st).idleFrom i l e) :=
    (State.ReportMoves.of_eq (t := u.setStack st) hu).trans (State.reportMoves_idleFrom _ i l e)
  unfold State.cancelSuspended
  dsimp only
  split
  · exact hidle _ (by simp) _ _
  · exact hidle s rfl _ _

theorem State.reportMoves_cancelAtOnce (s : State) (i : SlotIx) : s.ReportMoves (s.cancelAtOnce i) := by
  unfold State.cancelAtOnce
  split
  · exact .refl s
  · exact .of_take rfl
  · exact s.reportMoves_cancelSuspended i _
  · exact s.reportMoves_idleFrom i _ 0

theorem State.reportMoves_cancelWaiting (s : State) : s.ReportMoves s.cancelWaiting := by
  rcases State.cancelWaiting_cases (s := s) with ⟨e, i, -, -, h⟩ | ⟨-, h⟩
  · rw [h]
    exact (s.reportMoves_cancelAtOnce i).trans (State.onlyLink_answer _ _ _).reportMoves
  · rw [h]
    exact .refl s

theorem State.reportMoves_release (s : State) : s.ReportMoves s.release :=
  s.reportMoves_cancelWaiting.trans (.of_eq (by simp [State.release]))

/-- A release that goes on, with its cancel made where its turn has come. -/
theorem State.reportMoves_release_stays (s : State) (now : Prop) [Decidable now] (m : Mover) :
    s.ReportMoves ((if now then s.cancelWaiting else s).setMover m) := by
  split
  · exact s.reportMoves_cancelWaiting.trans (.of_eq rfl)
  · exact .of_eq rfl

theorem State.reportMoves_releaseAt (s : State) (c n : Nat) : s.ReportMoves (s.releaseAt c n) := by
  unfold State.releaseAt
  split
  · exact s.reportMoves_release
  · exact s.reportMoves_release_stays _ _

theorem State.reportMoves_passPoint (s : State) : s.ReportMoves s.passPoint := by
  unfold State.passPoint
  split
  · split
    · exact s.reportMoves_release
    · exact s.reportMoves_release_stays _ _
  · exact .refl s

theorem State.reportMoves_engineReset (s : State) (q : Request) : s.ReportMoves (s.engineReset q) := .of_move .engineReset rfl

/-! ## The element -/

theorem State.reportMoves_endBurst (s : State) (c n : Nat) : s.ReportMoves (s.endBurst c n) := by
  unfold State.endBurst
  split
  · split
    · exact s.reportMoves_engineReset _
    · exact s.reportMoves_releaseAt c n
  · exact s.reportMoves_releaseAt c n

theorem State.reportMoves_elementFails (s : State) (c n : Nat) (i : SlotIx) (l : LegIx) (snap : Snapshot) (cause : FaultCause) :
    s.ReportMoves (s.elementFails c n i l snap cause) := by
  have hback : s.ReportMoves ((s.rollback i l snap).setMover (.releasing 0 0)) := .of_eq (by simp)
  exact (hback.trans (State.reportMoves_enterFaulted _ i l cause _)).trans (State.reportMoves_endBurst _ c n)

theorem State.reportMoves_cancelActive (s : State) (n : Nat) (i : SlotIx) (l : LegIx) (snap : Snapshot) (q : Request) :
    s.ReportMoves (s.cancelActive n i l snap q) := by
  have hback : s.ReportMoves ((s.rollback i l snap).setMover (.releasing 0 0)) := .of_eq (by simp)
  have hidle := hback.trans (State.reportMoves_idleFrom _ i l (s.slot i).element)
  exact (hidle.trans (State.onlyLink_answer _ q _).reportMoves).trans (State.reportMoves_releaseAt _ 0 n)

theorem State.reportMoves_midBurst (s : State) (n : Nat) (i : SlotIx) (l : LegIx) (snap : Snapshot) :
    s.ReportMoves (s.midBurst n i l snap) := by
  have hcheck : s.ReportMoves (s.preemptionCheck i l snap) := .of_eq (by simp)
  unfold State.midBurst
  split
  · split
    · split
      · exact s.reportMoves_cancelActive n i l snap _
      · exact hcheck
    · exact s.reportMoves_engineReset _
    · exact hcheck
  · exact hcheck

theorem State.reportMoves_elementCompletes (s : State) (c n : Nat) (i : SlotIx) (l : LegIx) (r : LegRecord) (snap : Snapshot) :
    s.ReportMoves (s.elementCompletes c n i l r snap) := by
  have hrise : s.ReportMoves (s.updSlot i fun x => { x with element := x.element + 1 }) := .of_eq rfl
  unfold State.elementCompletes
  split
  · exact hrise.trans (State.reportMoves_midBurst _ n i l snap)
  · exact (s.reportMoves_commit i l r).trans (State.reportMoves_endBurst _ c n)

theorem State.reports_elementRead {x : Slot} {w : Word} (h : s.elementRead r x = .word w t) : t.reports = s.reports := by
  unfold State.elementRead at h
  repeat' split at h
  all_goals cases h
  all_goals rfl

theorem State.reports_elementWrite {x : Slot} {w : Word} (h : s.elementWrite r x w = .ok t) : t.reports = s.reports := by
  unfold State.elementWrite at h
  repeat' split at h
  all_goals cases h
  all_goals rfl

/-- The six steps of an element send no report (R52). -/
theorem State.reports_elementSteps {fences : Vector Fence 8} (h : s.elementSteps fences i r = .moved t) : t.reports = s.reports := by
  unfold State.elementSteps at h
  split at h
  · cases h
  · split at h
    · cases h
    · split at h
      · cases h
      · cases h
      · next hread =>
        split at h
        · cases h
        · next hwrite =>
          cases h
          exact (State.reports_elementWrite hwrite).trans (State.reports_elementRead hread)

@[simp] theorem State.reports_giveBackGrant (s : State) (r : LegRecord) : (s.giveBackGrant r).reports = s.reports := by
  unfold State.giveBackGrant
  split <;> rfl

theorem State.reportMoves_runElement {order : ElementOrder} (h : s.runElement order i l r snap = .next t) : s.ReportMoves t := by
  unfold State.runElement at h
  split at h <;> cases h
  · next hsteps =>
    exact (State.ReportMoves.of_eq ((State.reports_giveBackGrant _ r).trans (State.reports_elementSteps hsteps))).trans
      (State.reportMoves_elementCompletes _ _ _ i l r snap)
  · exact (State.ReportMoves.of_eq (s.reports_giveBackGrant r)).trans (State.reportMoves_elementFails _ _ _ i l snap _)

theorem reportMoves_execElement {order : ElementOrder} (h : execElement order s = .next u) : s.ReportMoves u := by
  unfold execElement at h
  split at h
  · split at h
    · split at h
      · split at h
        · split at h
          · cases h
            exact .refl s
          · exact State.reportMoves_runElement h
        · cases h
      · cases h
    · cases h
      exact s.reportMoves_release
    · cases h
      exact .refl s
  · cases h
    exact .refl s

/-! ## The trigger table, the host block, the ports and the transmitter -/

theorem State.reports_addCredits {n : Nat} (h : s.addCredits i n = .ok t) : t.reports = s.reports := by
  simp [State.addCredits_frame h]

theorem State.reports_arm (h : s.arm i = .ok t) : t.reports = s.reports := by
  simp [State.arm_frame h]

/-- An action claims its target, or is dropped with a report (R116). -/
theorem State.reportMoves_act (s : State) (k : TrigIx) (i : SlotIx) (a : Action) : s.ReportMoves (s.act k i a) := by
  cases a with
  | start =>
    cases h : s.addCredits i 1 with
    | ok t => simpa only [State.act, h] using State.ReportMoves.of_eq (State.reports_addCredits h)
    | error e => simpa only [State.act, h] using State.ReportMoves.of_take rfl
  | arm =>
    cases h : s.arm i with
    | ok t => simpa only [State.act, h] using State.ReportMoves.of_eq (State.reports_arm h)
    | error e => simpa only [State.act, h] using State.ReportMoves.of_take rfl
  | hold =>
    cases h : s.hold? i with
    | some t => simpa only [State.act, h] using State.reportMoves_hold? h
    | none => simpa only [State.act, h] using State.ReportMoves.of_take rfl

theorem State.reportMoves_fireEntry (s : State) (e : SlotEvent) (k : TrigIx) : s.ReportMoves (s.fireEntry e k) := by
  have hdisabled : s.ReportMoves (s.setTrigger k { s.trigger k with enabled := false }) := .of_eq rfl
  unfold State.fireEntry
  split
  · split
    · exact hdisabled.trans (State.reportMoves_act _ _ _ _)
    · exact s.reportMoves_act _ _ _
  · exact .refl s

theorem State.reportMoves_scan (s : State) (e : SlotEvent) : s.ReportMoves (s.scan e) := by
  unfold State.scan
  generalize List.finRange 32 = ks
  induction ks generalizing s with
  | nil => exact s.reportMoves_passPoint
  | cons k ks ih => exact (s.reportMoves_passPoint.trans (State.reportMoves_fireEntry _ e k)).trans (ih _)

/-- A granted block sends a reply and no report (R153, R154). -/
theorem State.reports_runBlock (s : State) (q : Request) : (s.runBlock q).reports = s.reports := by
  have hwrite : (s.runWriteBlock q).reports = s.reports := by
    unfold State.runWriteBlock
    split
    · rfl
    · rw [State.answer_reports, State.writeWords_frame]
  have hread : (s.runReadBlock q).reports = s.reports := by
    unfold State.runReadBlock
    dsimp only
    split
    · rfl
    · split <;> rfl
  unfold State.runBlock
  split
  · exact hwrite
  · exact hread

theorem State.reportMoves_arrive (s : State) (p : PortIx) (w : Word) : s.ReportMoves (s.arrive p w) := by
  unfold State.arrive
  split
  · split
    · exact .of_eq (by simp)
    · unfold State.overruns
      dsimp only
      split
      · exact .of_eq rfl
      · exact .of_take rfl
  · exact .refl s

theorem State.reportMoves_takeWord (s : State) (p : PortIx) : s.ReportMoves (s.takeWord p) := by
  unfold State.takeWord
  split
  · split
    · split
      · exact .of_eq (by simp)
      · unfold State.underruns
        dsimp only
        split
        · exact .of_eq rfl
        · exact .of_take rfl
    · exact .of_eq rfl
  · exact .refl s

/-- The offered report stands at the send position (R163). -/
theorem State.sendPos_lt_of_offered? {x : Report} (h : s.offered? = some x) : s.reports.sendPos < s.reports.queue.length := by
  unfold State.offered? at h
  split at h
  · exact (List.getElem?_eq_some_iff.mp h).1
  · cases h

theorem State.reportMoves_sendReport {x : Report} (h : s.offered? = some x) : s.ReportMoves (s.sendReport x) :=
  .of_move (.sends (State.sendPos_lt_of_offered? h)) rfl

theorem State.reportMoves_choose (s : State) : s.ReportMoves s.choose := by
  unfold State.choose
  split
  · exact .of_eq rfl
  · split
    · next hoffered => exact State.reportMoves_sendReport hoffered
    · exact .refl s

theorem State.reportMoves_paceExpires (s : State) (i : SlotIx) : s.ReportMoves (s.paceExpires i) := by
  unfold State.paceExpires
  split
  · exact .of_eq (by simp)
  · exact .refl s

end Sys2Proof.Machine
end

section
/-! # Every step is a chain of changes of the report queue, and keeps its law (O52) -/

namespace Sys2Proof.Machine

variable {s t u : State} {k : ReqKind}

/-! ## The kinds of row -/

theorem reportMoves_serve {owner : Request → State → Host.Outcome State Fault Refusal}
    (howner : ∀ {r t u}, owner r t = .next u → t.ReportMoves u) (h : s.serve k owner = .next u) : s.ReportMoves u :=
  State.serve_keeps (P := s.ReportMoves) (fun hlink hs => hs.trans hlink.reportMoves) (fun hs hu => hs.trans (howner hu)) (.refl s) h

theorem reportMoves_serveNow {owner : List Byte → State → State × Reply} (howner : ∀ b (t : State), t.ReportMoves (owner b t).1)
    (h : s.serveNow k owner = .next u) : s.ReportMoves u :=
  State.serveNow_keeps (P := s.ReportMoves) (fun hlink hs => hs.trans hlink.reportMoves) (fun b t hs => hs.trans (howner b t))
    (.refl s) h

theorem reportMoves_whenRunning {f : State → State} (hf : ∀ t : State, t.ReportMoves (f t)) (h : s.whenRunning f = .next u) :
    s.ReportMoves u := State.whenRunning_keeps (P := s.ReportMoves) (fun hs => hs.trans (hf _)) (.refl s) h

/-- A request row whose owner leaves the report queue. -/
theorem reportMoves_unseenRow {owner : List Byte → State → State × Reply}
    (howner : ∀ b (t : State), (owner b t).1.reports = t.reports) (h : s.serveNow k owner = .next u) : s.ReportMoves u :=
  reportMoves_serveNow (fun b t => .of_eq (howner b t)) h

/-- A slot request answers RANGE and changes nothing, or acts on its slot (R22). -/
theorem reportMoves_slotRow {f : List Byte → State → SlotIx → State × Reply} (hf : ∀ b (t : State) i, t.ReportMoves (f b t i).1)
    (h : s.serveNow k (fun b t => withSlot b t (f b t)) = .next u) : s.ReportMoves u := by
  refine reportMoves_serveNow (fun b t => ?_) h
  unfold withSlot
  split
  · exact .refl t
  · exact hf b t _

/-- A row of the receiver changes the link alone. -/
theorem reportMoves_lineRow {f : State → State} (hf : ∀ t : State, t.OnlyLink (f t)) (h : s.whenRunning f = .next u) :
    s.ReportMoves u := reportMoves_whenRunning (fun t => (hf t).reportMoves) h

/-- An owner's answer follows what the owner has done. -/
theorem State.ReportMoves.answered {r : Request} {rep : Reply} (hs : s.ReportMoves t)
    (h : (Host.Outcome.next (t.answer r rep) : Host.Outcome State Fault Refusal) = .next u) : s.ReportMoves u := by
  cases h
  exact hs.trans (t.onlyLink_answer r rep).reportMoves

/-! ## The report queue's own requests -/

theorem reportMoves_execReportAck (h : execReportAck s = .next u) : s.ReportMoves u := by
  refine reportMoves_serveNow (fun b t => ?_) h
  split
  · exact .refl t
  · next hplace => exact .of_move (.acknowledges _ (ReportQueue.lt_of_sentPlace? hplace)) rfl

theorem reportMoves_execReportReplay (h : execReportReplay s = .next u) : s.ReportMoves u := by
  refine reportMoves_serveNow (fun b t => ?_) h
  split
  · exact .refl t
  · next hplace => exact .of_move (.replays _ (ReportQueue.lt_of_place? hplace)) rfl

theorem reportMoves_execReportGate (h : execReportGate s = .next u) : s.ReportMoves u :=
  reportMoves_serveNow (fun _ _ => .of_move (.gates _) rfl) h

/-! ## The slot table -/

theorem reportMoves_execSlotSetup (h : execSlotSetup s = .next u) : s.ReportMoves u := by
  refine reportMoves_slotRow (fun b t i => ?_) h
  split
  · exact .refl t
  · split
    · split
      · exact .refl t
      · exact .of_eq rfl
    · exact .refl t

theorem reportMoves_execSlotArm (h : execSlotArm s = .next u) : s.ReportMoves u := by
  refine reportMoves_slotRow (fun b t i => ?_) h
  split
  · next harm => exact .of_eq (State.reports_arm harm)
  · exact .refl t

theorem reportMoves_execSlotStart (h : execSlotStart s = .next u) : s.ReportMoves u := by
  refine reportMoves_slotRow (fun b t i => ?_) h
  split
  · split
    · next hadd => exact .of_eq (State.reports_addCredits hadd)
    · exact .refl t
  · exact .refl t

theorem reportMoves_execSlotHold (h : execSlotHold s = .next u) : s.ReportMoves u := by
  refine reportMoves_slotRow (fun b t i => ?_) h
  split
  · next hhold => exact State.reportMoves_hold? hhold
  · exact .refl t

theorem reportMoves_execSlotResume (h : execSlotResume s = .next u) : s.ReportMoves u := by
  refine reportMoves_serve (fun {r t u} hu => ?_) h
  have hrefl := State.ReportMoves.refl t
  have hwithdraw (i : SlotIx) : t.ReportMoves (t.updSlot i fun x => { x with holdRequested := false }) := .of_eq rfl
  split at hu
  · exact hrefl.answered hu
  · split at hu
    · next i _ _ l _ =>
      have hrearm : t.ReportMoves ((t.setLegState i l .armed).evaluate i) := .of_eq (by simp)
      exact hrearm.answered hu
    · split at hu
      · exact (hwithdraw _).answered hu
      · exact hrefl.answered hu
    · split at hu
      · exact (hwithdraw _).answered hu
      · exact hrefl.answered hu
    · split at hu
      · next hresumed => exact (State.reportMoves_resumeFaulted hresumed).answered hu
      · exact hrefl.answered hu
      · cases hu
    · exact hrefl.answered hu

theorem reportMoves_execSlotCancel (h : execSlotCancel s = .next u) : s.ReportMoves u := by
  refine reportMoves_serve (fun {r t u} hu => ?_) h
  have hrefl := State.ReportMoves.refl t
  split at hu
  · exact hrefl.answered hu
  · split at hu
    · exact hrefl.answered hu
    · cases hu
      exact .of_eq rfl
    · exact (t.reportMoves_cancelAtOnce _).answered hu

/-! ## The buffer, the ports, the triggers and the transmitter -/

theorem State.reportMoves_startBlock (s : State) (r : Request) (o : AskOrder) : s.ReportMoves (s.startBlock r o) :=
  .of_eq (by simp [State.startBlock])

theorem reportMoves_execBufWrite {o : AskOrder} (h : execBufWrite o s = .next u) : s.ReportMoves u := by
  refine reportMoves_serve (fun {r t u} hu => ?_) h
  split at hu
  · cases hu
    exact t.reportMoves_startBlock r o
  · exact (State.ReportMoves.refl t).answered hu

theorem reportMoves_execBufRead {o : AskOrder} (h : execBufRead o s = .next u) : s.ReportMoves u := by
  refine reportMoves_serve (fun {r t u} hu => ?_) h
  split at hu
  · split at hu
    · cases hu
      exact t.reportMoves_startBlock r o
    · exact (State.ReportMoves.refl t).answered hu
  · exact (State.ReportMoves.refl t).answered hu

theorem reportMoves_execHostBlockGrant (h : execHostBlockGrant s = .next u) : s.ReportMoves u := by
  refine reportMoves_whenRunning (fun t => ?_) h
  split
  · split
    · exact .of_eq (t.reports_runBlock _)
    · exact .refl t
  · exact .refl t

theorem reportMoves_execFenceSet (h : execFenceSet s = .next u) : s.ReportMoves u :=
  reportMoves_unseenRow (fun b t => by
    split
    · rfl
    · split <;> simp) h

theorem reportMoves_execPortSetup (h : execPortSetup s = .next u) : s.ReportMoves u := by
  refine reportMoves_unseenRow (fun b t => ?_) h
  split
  · rfl
  · split
    · rfl
    · split
      · split <;> simp
      · rfl

theorem reportMoves_execPortQuery (h : execPortQuery s = .next u) : s.ReportMoves u := by
  refine reportMoves_unseenRow (fun b t => ?_) h
  split
  · rfl
  · dsimp only
    split <;> rfl

theorem reportMoves_execTriggerEvent (h : execTriggerEvent s = .next u) : s.ReportMoves u := by
  refine reportMoves_whenRunning (fun t => ?_) h
  split
  · exact .refl t
  · next e rest _ =>
    have htaken : t.ReportMoves { t with events := rest } := .of_eq rfl
    exact htaken.trans (State.reportMoves_scan _ e)

theorem reportMoves_execTransmitReply (h : execTransmitReply s = .next u) : s.ReportMoves u :=
  reportMoves_whenRunning (fun t => by split <;> exact .of_eq rfl) h

theorem reportMoves_execTransmitReport (h : execTransmitReport s = .next u) : s.ReportMoves u := by
  refine reportMoves_whenRunning (fun t => ?_) h
  split
  · next hoffered => exact State.reportMoves_sendReport hoffered
  · exact .refl t

theorem reportMoves_execFrameSent (h : execFrameSent s = .next u) : s.ReportMoves u := by
  refine reportMoves_whenRunning (fun t => ?_) h
  split
  · exact (t.onlyLink_updLink _).reportMoves.trans (State.reportMoves_choose _)
  · exact .refl t

/-! ## The resets and start-up -/

theorem reportMoves_execEngineReset (h : execEngineReset s = .next u) : s.ReportMoves u := by
  refine reportMoves_serve (fun {r t u} hu => ?_) h
  split at hu <;> cases hu
  · exact .of_eq rfl
  · exact t.reportMoves_engineReset r

theorem reportMoves_execPowerReset (h : execPowerReset s = .next u) : s.ReportMoves u := by
  cases h
  exact .of_move .powerReset rfl

theorem reportMoves_execResetRelease {straps : BitVec 2} (h : execResetRelease straps s = .next u) : s.ReportMoves u := by
  cases h
  split <;> exact .of_eq rfl

/-- The end of start-up sends RESET-DONE (R172). -/
theorem reportMoves_execStartUpEnd (h : execStartUpEnd s = .next u) : s.ReportMoves u := by
  cases h
  split
  · exact .of_take rfl
  · exact .refl s

theorem reportMoves_execUpset {x : Upset} (h : execUpset x s = .next u) : s.ReportMoves u := by
  unfold execUpset at h
  split at h <;> cases h <;> exact .of_eq rfl

/-! ## The rows that do not touch the queue -/

theorem reportMoves_execHello (h : execHello s = .next u) : s.ReportMoves u := reportMoves_unseenRow (fun _ _ => rfl) h

theorem reportMoves_execLinkStatus (h : execLinkStatus s = .next u) : s.ReportMoves u :=
  reportMoves_unseenRow (fun b t => by dsimp only; split <;> rfl) h

theorem reportMoves_execFenceRead (h : execFenceRead s = .next u) : s.ReportMoves u :=
  reportMoves_unseenRow (fun b t => by split <;> rfl) h

theorem reportMoves_execLegLoad (h : execLegLoad s = .next u) : s.ReportMoves u := by
  refine reportMoves_unseenRow (fun b t => ?_) h
  split
  · rfl
  · split
    · rfl
    · split <;> rfl

theorem reportMoves_execLegRead (h : execLegRead s = .next u) : s.ReportMoves u :=
  reportMoves_unseenRow (fun b t => by split <;> rfl) h

theorem reportMoves_execLegLink (h : execLegLink s = .next u) : s.ReportMoves u := by
  refine reportMoves_unseenRow (fun b t => ?_) h
  split
  · rfl
  · split
    · rfl
    · split <;> rfl

theorem reportMoves_execSlotQuery (h : execSlotQuery s = .next u) : s.ReportMoves u :=
  reportMoves_slotRow (fun _ t _ => .refl t) h

theorem reportMoves_execTrigSet (h : execTrigSet s = .next u) : s.ReportMoves u := by
  refine reportMoves_unseenRow (fun b t => ?_) h
  split
  · rfl
  · split <;> rfl

theorem reportMoves_execTrigRead (h : execTrigRead s = .next u) : s.ReportMoves u :=
  reportMoves_unseenRow (fun b t => by split <;> rfl) h

theorem reportMoves_execFrameReceived {b : Byte} (h : execFrameReceived b s = .next u) : s.ReportMoves u := by
  refine reportMoves_lineRow (fun t => ?_) h
  split
  · exact t.onlyLink_deliverUnlessBreak b
  · exact .refl t

theorem reportMoves_execLengthError {b : Byte} (h : execLengthError b s = .next u) : s.ReportMoves u := by
  refine reportMoves_lineRow (fun t => ?_) h
  split
  · exact t.onlyLink_deliverUnlessBreak b
  · exact .refl t

theorem reportMoves_execGapTimeout (h : execGapTimeout s = .next u) : s.ReportMoves u :=
  reportMoves_whenRunning (fun t => by split <;> exact .of_eq rfl) h

theorem reportMoves_execLineBreak (h : execLineBreak s = .next u) : s.ReportMoves u :=
  reportMoves_whenRunning (fun t => by split <;> exact .of_eq rfl) h

/-! ## Every command and every step -/

theorem exec_reportMoves {c : Instr} (h : exec c s = .next u) : s.ReportMoves u := by
  cases c with
  | powerReset => exact reportMoves_execPowerReset h
  | resetRelease straps => exact reportMoves_execResetRelease h
  | startUpEnd => exact reportMoves_execStartUpEnd h
  | upset x => exact reportMoves_execUpset h
  | frameReceived b => exact reportMoves_execFrameReceived h
  | lengthError b => exact reportMoves_execLengthError h
  | byteDelivered b => exact reportMoves_lineRow (fun t => t.onlyLink_deliverUnlessBreak b) h
  | gapTimeout => exact reportMoves_execGapTimeout h
  | lineBreak => exact reportMoves_execLineBreak h
  | lineHighAfterBreak => exact reportMoves_lineRow (fun t => t.onlyLink_updLink _) h
  | transmitReply => exact reportMoves_execTransmitReply h
  | transmitReport => exact reportMoves_execTransmitReport h
  | frameSent => exact reportMoves_execFrameSent h
  | hello => exact reportMoves_execHello h
  | linkStatus => exact reportMoves_execLinkStatus h
  | engineReset => exact reportMoves_execEngineReset h
  | bufWrite o => exact reportMoves_execBufWrite h
  | bufRead o => exact reportMoves_execBufRead h
  | hostBlockGrant => exact reportMoves_execHostBlockGrant h
  | fenceSet => exact reportMoves_execFenceSet h
  | fenceRead => exact reportMoves_execFenceRead h
  | legLoad => exact reportMoves_execLegLoad h
  | legRead => exact reportMoves_execLegRead h
  | legLink => exact reportMoves_execLegLink h
  | slotSetup => exact reportMoves_execSlotSetup h
  | slotArm => exact reportMoves_execSlotArm h
  | slotStart => exact reportMoves_execSlotStart h
  | slotHold => exact reportMoves_execSlotHold h
  | slotResume => exact reportMoves_execSlotResume h
  | slotCancel => exact reportMoves_execSlotCancel h
  | slotQuery => exact reportMoves_execSlotQuery h
  | trigSet => exact reportMoves_execTrigSet h
  | trigRead => exact reportMoves_execTrigRead h
  | triggerEvent => exact reportMoves_execTriggerEvent h
  | portSetup => exact reportMoves_execPortSetup h
  | portQuery => exact reportMoves_execPortQuery h
  | wordArrival p w => exact reportMoves_whenRunning (fun t => t.reportMoves_arrive p w) h
  | wordTake p => exact reportMoves_whenRunning (fun t => t.reportMoves_takeWord p) h
  | reportAck => exact reportMoves_execReportAck h
  | reportReplay => exact reportMoves_execReportReplay h
  | reportGate => exact reportMoves_execReportGate h
  | element o => exact reportMoves_execElement h
  | paceExpiry i => exact reportMoves_whenRunning (fun t => t.reportMoves_paceExpires i) h

theorem step_reportMoves (h : step s = .next t) : s.ReportMoves t := by
  unfold step at h
  split at h
  · cases h
    exact .of_eq rfl
  · next rest _ =>
    have hqueue : s.ReportMoves { s with pending := rest } := .of_eq rfl
    exact hqueue.trans (exec_reportMoves h)

end Sys2Proof.Machine

namespace Sys2Proof

open Machine

/-- Settles O52: a step is a chain of changes of the report queue, and each of them keeps the law. -/
theorem reportLawKept : Obligations.ReportLawKept :=
  fun _ _ hs h => ReportQueue.Moves.reportLaw (step_reportMoves h) hs

end Sys2Proof
end

section
/-! # REPORT_ACK, REPORT_REPLAY and REPORT_GATE (O39, O40) -/

namespace Sys2Proof.Machine

variable {s : State} {r : Request} {rest : List Request} {q : ReportQueue} {front back : List Report} {x : Report} {n : Seq}

/-! ## LOST (R160) -/

theorem bump_of_lt {v : Nat} (h : v < 65535) : bump v = v + 1 := if_pos h

theorem bump_top : bump 65535 = 65535 := rfl

/-! ## The number a body carries (R201) -/

@[simp] theorem seqOf_leBytes (n : Seq) : seqOf (leBytes 2 n.toNat) = n := by
  rw [seqOf, fieldAt_leBytes, Nat.mod_eq_of_lt (show n.toNat < 256 ^ 2 from n.isLt), BitVec.ofNat_toNat, BitVec.setWidth_eq]

/-- A body of two bytes passes the checks of REPORT_ACK and of REPORT_REPLAY (R186). -/
theorem bodyRefusal?_seq {k : ReqKind} (hkind : k = .reportAck ∨ k = .reportReplay) (v : Nat) : bodyRefusal? k (leBytes 2 v) = none := by
  rcases hkind with rfl | rfl <;> exact bodyRefusal?_of_no_flags rfl (by simp [ReqKind.lengthOk])

/-! ## The three rows, where the request is taken -/

@[simp] theorem State.reports_taken (s : State) (rest : List Request) : (s.taken rest).reports = s.reports := rfl

theorem exec_reportAck_refused (h : Takes s r rest) (hkind : r.kind = .reportAck) (hbody : r.body = leBytes 2 n.toNat)
    (hplace : s.reports.sentPlace? n = none) : exec .reportAck s = .next { s with link := replied s.link r rest .seq [] } := by
  show execReportAck s = _
  unfold execReportAck
  exact State.serveNow_of_takes (u := s.taken rest) (rep := Reply.bare .seq) h hkind (hbody ▸ bodyRefusal?_seq (.inl rfl) _)
    (by simp only [hbody, seqOf_leBytes, State.reports_taken, hplace]) rfl

theorem exec_reportAck_accepted {m : Nat} (h : Takes s r rest) (hkind : r.kind = .reportAck) (hbody : r.body = leBytes 2 n.toNat)
    (hplace : s.reports.sentPlace? n = some m) :
    exec .reportAck s =
      .next { s with
        link := replied s.link r rest .ok (leBytes 1 (s.reports.removeThrough m).reportLoss.queue.length)
        reports := (s.reports.removeThrough m).reportLoss } := by
  show execReportAck s = _
  unfold execReportAck
  exact State.serveNow_of_takes (u := (s.taken rest).updReports fun q => (q.removeThrough m).reportLoss)
    (rep := Reply.okWith (leBytes 1 (s.reports.removeThrough m).reportLoss.queue.length)) h hkind
    (hbody ▸ bodyRefusal?_seq (.inl rfl) _) (by simp only [hbody, seqOf_leBytes, State.reports_taken, hplace]) rfl

theorem exec_reportReplay_refused (h : Takes s r rest) (hkind : r.kind = .reportReplay) (hbody : r.body = leBytes 2 n.toNat)
    (hplace : s.reports.place? n = none) : exec .reportReplay s = .next { s with link := replied s.link r rest .seq [] } := by
  show execReportReplay s = _
  unfold execReportReplay
  exact State.serveNow_of_takes (u := s.taken rest) (rep := Reply.bare .seq) h hkind (hbody ▸ bodyRefusal?_seq (.inr rfl) _)
    (by simp only [hbody, seqOf_leBytes, State.reports_taken, hplace]) rfl

theorem exec_reportReplay_accepted {m : Nat} (h : Takes s r rest) (hkind : r.kind = .reportReplay)
    (hbody : r.body = leBytes 2 n.toNat) (hplace : s.reports.place? n = some m) :
    exec .reportReplay s = .next { s with link := replied s.link r rest .ok [], reports := { s.reports with sendPos := m } } := by
  show execReportReplay s = _
  unfold execReportReplay
  exact State.serveNow_of_takes (u := (s.taken rest).updReports fun q => { q with sendPos := m }) (rep := Reply.bare .ok) h hkind
    (hbody ▸ bodyRefusal?_seq (.inr rfl) _) (by simp only [hbody, seqOf_leBytes, State.reports_taken, hplace]) rfl

theorem exec_reportGate_accepted {g : Bool} (h : Takes s r rest) (hkind : r.kind = .reportGate)
    (hbody : r.body = [if g then 0x01 else 0x00]) :
    exec .reportGate s = .next { s with link := replied s.link r rest .ok [], reports := { s.reports with gateOpen := g } } := by
  have hcheck : bodyRefusal? .reportGate [if g then 0x01 else 0x00] = none := by cases g <;> decide
  have hbit : (byteAt [if g then 0x01 else 0x00] 0).getLsbD 0 = g := by cases g <;> decide
  show execReportGate s = _
  unfold execReportGate
  exact State.serveNow_of_takes (u := (s.taken rest).updReports fun q => { q with gateOpen := g }) (rep := Reply.bare .ok) h hkind
    (hbody ▸ hcheck) (by simp only [hbody, hbit]) rfl

/-! ## The acknowledgement of a report (R165) -/

theorem ReportQueue.sentPlace?_of_sent (hq : q.queue = front ++ x :: back) (hx : x.seq = n) (hfront : ∀ y ∈ front, y.seq ≠ n)
    (hsent : x.sent = true) : q.sentPlace? n = some front.length := by
  simp [ReportQueue.sentPlace?, ReportQueue.place?_of_split hq hx hfront, hq, hsent]

theorem ReportQueue.sentPlace?_of_not_sent (hq : q.queue = front ++ x :: back) (hx : x.seq = n) (hfront : ∀ y ∈ front, y.seq ≠ n)
    (hsent : x.sent = false) : q.sentPlace? n = none := by
  simp [ReportQueue.sentPlace?, ReportQueue.place?_of_split hq hx hfront, hq, hsent]

theorem ReportQueue.sentPlace?_eq_none (h : ∀ y ∈ q.queue, y.seq ≠ n) : q.sentPlace? n = none := by
  simp [ReportQueue.sentPlace?, ReportQueue.place?_eq_none h]

/-- The reports behind the acknowledged one are left. -/
theorem ReportQueue.removeThrough_of_split (hq : q.queue = front ++ x :: back) :
    q.removeThrough front.length = { q with queue := back, sendPos := q.sendPos - (front.length + 1) } := by
  simp [ReportQueue.removeThrough, hq]

/-- Both steps of an acknowledgement: what is left, with a LOSS report behind it where reports were lost. -/
theorem ReportQueue.acknowledged_of_split (hq : q.queue = front ++ x :: back) (hlength : q.queue.length ≤ 32) :
    (q.removeThrough front.length).reportLoss =
      { q with
        queue := if 0 < q.lost then back ++ [{ seq := q.nextSeq, body := .loss q.lost, sent := false }] else back
        nextSeq := if 0 < q.lost then q.nextSeq + 1 else q.nextSeq
        sendPos := q.sendPos - (front.length + 1)
        lost := 0 } := by
  have hroom : (q.removeThrough front.length).queue.length < 32 := by
    rw [ReportQueue.length_removeThrough]
    omega
  rcases Nat.eq_zero_or_pos q.lost with hlost | hlost
  · rw [ReportQueue.reportLoss_of_lost_eq_zero (q := q.removeThrough front.length) hlost, ReportQueue.removeThrough_of_split hq]
    simp [hlost]
  · rw [ReportQueue.reportLoss_of_lost_pos (q := q.removeThrough front.length) hlost hroom, ReportQueue.removeThrough_of_split hq]
    simp only [if_pos hlost]

theorem ReportQueue.attn_iff (q : ReportQueue) : q.attn = true ↔ q.queue ≠ [] := by
  simp [ReportQueue.attn]

end Sys2Proof.Machine

namespace Sys2Proof

open Machine

/-- Settles O40: the queue below 32 reports and at 32, and an acknowledgement by what the number finds in the queue. -/
theorem reportsAreAppendedAndAcknowledged : Obligations.ReportsAreAppendedAndAcknowledged := by
  refine ⟨fun q b => ⟨fun hroom => ?_, fun hfull hlost => ?_, fun hfull hlost => ?_, q.attn_iff⟩,
    fun s r rest n htakes hkind hbody =>
      ⟨fun hnone => exec_reportAck_refused htakes hkind hbody (ReportQueue.sentPlace?_eq_none hnone),
        fun front back x hq hx hfront => ⟨fun hsent => ?_, fun hsent hlength => ?_⟩⟩⟩
  · rw [ReportQueue.take_of_room hroom]
    exact ⟨rfl, (ReportQueue.attn_iff _).mpr (by simp)⟩
  · rw [ReportQueue.take_of_full hfull, bump_of_lt hlost]
  · rw [ReportQueue.take_of_full hfull, hlost, bump_top, ← hlost]
  · exact exec_reportAck_refused htakes hkind hbody (ReportQueue.sentPlace?_of_not_sent hq hx hfront hsent)
  · rw [exec_reportAck_accepted htakes hkind hbody (ReportQueue.sentPlace?_of_sent hq hx hfront hsent),
      ReportQueue.acknowledged_of_split hq hlength]

/-- Settles O39: the number's place in the queue is the new send position, and the gate takes the body's bit. -/
theorem replayAndGate : Obligations.ReplayAndGate :=
  ⟨fun _ _ _ _ htakes hkind hbody =>
      ⟨fun hnone => exec_reportReplay_refused htakes hkind hbody (ReportQueue.place?_eq_none hnone),
        fun _ _ _ hq hx hfront => exec_reportReplay_accepted htakes hkind hbody (ReportQueue.place?_of_split hq hx hfront)⟩,
    fun _ _ _ _ htakes hkind hbody => exec_reportGate_accepted htakes hkind hbody⟩

end Sys2Proof
end

section
/-! # The link's queues and their law (O53)

`Link.Move` lists every way a command can change the link: a frame is sorted, the engine takes a request and answers it, a reply goes
onto the line, ENGINE-RESET empties the cache, RESET goes low. The law of the queues and the tags (R183, R184, R188) is kept by each. -/

namespace Sys2Proof.Machine

open Relation (ReflTransGen)

variable {k k' : Link} {r q : Request} {e : Executing} {c : List CacheEntry} {x : CacheEntry}

/-! ## The tags in use (R182) -/

theorem Link.inUse_of_idle (h : k.executing = none) : k.inUse = k.inbox := by simp [Link.inUse, h]

theorem Link.inUse_of_executing (h : k.executing = some e) : k.inUse = e.request :: k.inbox := by simp [Link.inUse, h]

theorem Link.reserved_of_executing (h : k.executing = some e) : k.reserved = 1 := by simp [Link.reserved, h]

/-- The tags in use are those of the inbox and the executing request, and nothing else of the link. -/
theorem Link.inUse_congr (hinbox : k'.inbox = k.inbox) (hexec : k'.executing = k.executing) : k'.inUse = k.inUse := by
  simp only [Link.inUse, hinbox, hexec]

theorem Link.reserved_congr (hexec : k'.executing = k.executing) : k'.reserved = k.reserved := by
  simp only [Link.reserved, hexec]

/-- A request that joins the inbox is the last of those in use. -/
theorem Link.inUse_joined (k : Link) (r : Request) : Link.inUse { k with inbox := k.inbox ++ [r] } = k.inUse ++ [r] :=
  (List.append_assoc _ _ _).symm

/-! ## The reply cache (R184) -/

/-- A new entry stands behind the old ones, of which at most 15 are kept. -/
theorem cacheAdd_eq (c : List CacheEntry) (x : CacheEntry) :
    ∃ kept : List CacheEntry, kept.Sublist c ∧ (c.length ≤ 16 → kept.length ≤ 15) ∧ cacheAdd c x = kept ++ [x] := by
  unfold cacheAdd
  split
  · next h => exact ⟨c, List.Sublist.refl c, fun _ => Nat.le_of_lt_succ h, rfl⟩
  · exact ⟨c.drop 1, List.drop_sublist 1 c, fun h => by rw [List.length_drop]; omega, rfl⟩

theorem length_cacheAdd_le (h : c.length ≤ 16) (x : CacheEntry) : (cacheAdd c x).length ≤ 16 := by
  obtain ⟨kept, -, hlength, hadd⟩ := cacheAdd_eq c x
  rw [hadd, List.length_append]
  exact Nat.succ_le_succ (hlength h)

theorem mem_cacheAdd {y : CacheEntry} (h : y ∈ cacheAdd c x) : y ∈ c ∨ y = x := by
  obtain ⟨kept, hkept, -, hadd⟩ := cacheAdd_eq c x
  rw [hadd, List.mem_append, List.mem_singleton] at h
  exact h.imp_left (hkept.subset ·)

/-- The cached tags stay distinct under an entry with a tag that is not cached. -/
theorem nodup_tags_cacheAdd (h : (c.map (·.tag)).Nodup) (hx : ∀ y ∈ c, y.tag ≠ x.tag) : ((cacheAdd c x).map (·.tag)).Nodup := by
  obtain ⟨kept, hkept, -, hadd⟩ := cacheAdd_eq c x
  rw [hadd, List.map_append]
  exact List.nodup_append.mpr ⟨(hkept.map _).nodup h, List.nodup_singleton _, by
    simpa using fun y hy => hx y (hkept.subset hy)⟩

/-! ## The moves -/

/-- The link once its executing request is answered with a reply frame (R184, R187, R188). -/
def Link.answered (k : Link) (r : Request) (f : Frame) : Link :=
  { k with
    executing := none, replies := k.replies ++ [f], cache := cacheAdd k.cache { tag := r.tag, crc := r.crc, reply := f } }

/-- One change of the link. -/
inductive Link.Move (k : Link) : Link → Prop
  /-- the queues stay; the receiver, the break, the transmitter, the counters and the rate code may change -/
  | quiet {k' : Link} : k'.inbox = k.inbox → k'.executing = k.executing → k'.replies = k.replies → k'.cache = k.cache → Move k k'
  /-- an immediate reply is queued below 12 replies and reserved places (R188) -/
  | queues (f : Frame) : k.replies.length + k.reserved < 12 → Move k { k with replies := k.replies ++ [f] }
  /-- a cached entry gives way to another frame with its tag (R181) -/
  | forgets (tag : Byte) : Move k { k with cache := k.cache.filter fun y => decide (y.tag ≠ tag) }
  /-- a request joins the inbox (R183) -/
  | joins (r : Request) : k.inbox.length < 8 → (∀ p ∈ k.inUse, p.tag ≠ r.tag) → (∀ y ∈ k.cache, y.tag ≠ r.tag) →
      Move k { k with inbox := k.inbox ++ [r] }
  /-- the engine takes the oldest request, with a reply place reserved (R185) -/
  | takes (e : Executing) (rest : List Request) : k.executing = none → k.replies.length < 12 → k.inbox = e.request :: rest →
      Move k { k with inbox := rest, executing := some e }
  /-- the executing request is answered (R187) -/
  | answers (e : Executing) (f : Frame) : k.executing = some e → Move k (k.answered e.request f)
  /-- the oldest reply goes onto the line (R189) -/
  | sends (f : Frame) (rest : List Frame) : k.replies = f :: rest → Move k { k with replies := rest }
  /-- ENGINE-RESET empties the cache (R193) -/
  | empties : Move k { k with cache := [] }
  /-- RESET goes low (R195) -/
  | powerReset : Move k Link.initial

theorem Link.linkLaw_initial : LinkLaw Link.initial := by decide

/-- The entry of the answered request takes its tag from those in use to the cached ones. -/
theorem Link.linkLaw_answered (h : LinkLaw k) (he : k.executing = some e) (f : Frame) : LinkLaw (k.answered e.request f) := by
  obtain ⟨hinbox, hreplies, hcache, huse, hcached, hdisjoint⟩ := h
  rw [Link.inUse_of_executing he] at huse hdisjoint
  rw [Link.reserved_of_executing he] at hreplies
  obtain ⟨hfresh, hnodup⟩ := List.nodup_cons.mp huse
  have hidle : (k.answered e.request f).inUse = k.inbox := Link.inUse_of_idle rfl
  refine ⟨hinbox, by simpa [Link.answered, Link.reserved] using hreplies, length_cacheAdd_le hcache _, hidle ▸ hnodup,
    nodup_tags_cacheAdd hcached fun y hy => hdisjoint y hy _ (List.mem_cons_self ..), fun y hy p hp => ?_⟩
  rw [hidle] at hp
  rcases mem_cacheAdd hy with hy | rfl
  · exact hdisjoint y hy p (List.mem_cons_of_mem _ hp)
  · exact fun htag => hfresh (List.mem_map.mpr ⟨p, hp, htag.symm⟩)

theorem Link.linkLaw_joined (h : LinkLaw k) (hroom : k.inbox.length < 8) (huse : ∀ p ∈ k.inUse, p.tag ≠ r.tag)
    (hcached : ∀ y ∈ k.cache, y.tag ≠ r.tag) : LinkLaw { k with inbox := k.inbox ++ [r] } := by
  obtain ⟨-, hreplies, hcache, hnodup, hnodup', hdisjoint⟩ := h
  refine ⟨by simpa using hroom, hreplies, hcache, ?_, hnodup', fun y hy p hp => ?_⟩
  · rw [Link.inUse_joined, List.map_append]
    exact List.nodup_append.mpr ⟨hnodup, List.nodup_singleton _, by simpa using huse⟩
  · rw [Link.inUse_joined, List.mem_append, List.mem_singleton] at hp
    rcases hp with hp | rfl
    · exact hdisjoint y hy p hp
    · exact hcached y hy

theorem Link.Move.linkLaw (h : k.Move k') (hk : LinkLaw k) : LinkLaw k' := by
  obtain ⟨hinbox, hreplies, hcache, huse, hcached, hdisjoint⟩ := id hk
  cases h with
  | quiet h₁ h₂ h₃ h₄ =>
    unfold LinkLaw
    rw [Link.inUse_congr h₁ h₂, Link.reserved_congr h₂, h₁, h₃, h₄]
    exact hk
  | queues f hroom =>
    have hreplies' : (k.replies ++ [f]).length + k.reserved ≤ 12 := by
      rw [List.length_append, List.length_singleton]
      omega
    exact ⟨hinbox, hreplies', hcache, huse, hcached, hdisjoint⟩
  | forgets tag =>
    exact ⟨hinbox, hreplies, (List.length_filter_le _ _).trans hcache, huse, (List.filter_sublist.map _).nodup hcached,
      fun y hy => hdisjoint y (List.mem_of_mem_filter hy)⟩
  | joins r hroom hfresh hfresh' => exact Link.linkLaw_joined hk hroom hfresh hfresh'
  | takes e rest hidle hroom hfront =>
    rw [Link.inUse_of_idle hidle, hfront] at huse hdisjoint
    rw [hfront] at hinbox
    exact ⟨Nat.le_of_succ_le hinbox, hroom, hcache, huse, hcached, hdisjoint⟩
  | answers e f he => exact Link.linkLaw_answered hk he f
  | sends f rest hfront =>
    have hreplies' : rest.length + k.reserved ≤ 12 := by
      rw [hfront, List.length_cons] at hreplies
      omega
    exact ⟨hinbox, hreplies', hcache, huse, hcached, hdisjoint⟩
  | empties => exact ⟨hinbox, hreplies, Nat.zero_le _, huse, List.nodup_nil, by simp⟩
  | powerReset => exact Link.linkLaw_initial

/-- A chain of changes. -/
abbrev Link.Moves : Link → Link → Prop := ReflTransGen Link.Move

theorem Link.Moves.linkLaw (h : k.Moves k') (hk : LinkLaw k) : LinkLaw k' := by
  induction h with
  | refl => exact hk
  | tail _ hmove ih => exact hmove.linkLaw ih

end Sys2Proof.Machine
end

section
/-! # What the operations do to the link (O53)

`State.LinkMoves s t` says that t has the link of s after a chain of changes of `Link.Move`. The operations of the transfer side leave
the link by their frames, but for a cancel that is answered and for ENGINE-RESET. -/

namespace Sys2Proof.Machine

open Relation (ReflTransGen)

variable {s t u v : State} {r : Request} {rest : List Request} {rep : Reply} {i : SlotIx} {l : LegIx} {rec : LegRecord} {snap : Snapshot}

/-- The link of t is reached from that of s by a chain of its changes. -/
def State.LinkMoves (s t : State) : Prop := s.link.Moves t.link

theorem State.LinkMoves.trans (hst : s.LinkMoves t) (htu : t.LinkMoves u) : s.LinkMoves u := ReflTransGen.trans hst htu

/-- An operation that leaves the link as it was. -/
theorem State.LinkMoves.of_eq (h : t.link = s.link) : s.LinkMoves t := by
  rw [State.LinkMoves, h]

theorem State.LinkMoves.refl (s : State) : s.LinkMoves s := .of_eq rfl

theorem State.LinkMoves.of_move {k : Link} (h : s.link.Move k) (ht : t.link = k) : s.LinkMoves t := ReflTransGen.single (ht ▸ h)

/-- An operation that leaves the queues of the link. -/
theorem State.LinkMoves.quiet (hinbox : t.link.inbox = s.link.inbox) (hexec : t.link.executing = s.link.executing)
    (hreplies : t.link.replies = s.link.replies) (hcache : t.link.cache = s.link.cache) : s.LinkMoves t :=
  .of_move (.quiet hinbox hexec hreplies hcache) rfl

theorem State.linkMoves_count (s : State) (f : Counters → Counters) : s.LinkMoves (s.count f) := .quiet rfl rfl rfl rfl

/-! ## The sorting of a frame (R180–R183) -/

theorem State.linkMoves_immediate (s : State) (f : Frame) : s.LinkMoves (s.immediate f) := by
  rcases State.immediate_cases (s := s) f with ⟨hroom, h⟩ | ⟨-, h⟩
  · exact h ▸ .of_move (.queues f hroom) rfl
  · exact h ▸ s.linkMoves_count _

/-- A request that passes checks 2 and 3 joins the inbox or is refused with FULL. -/
theorem State.linkMoves_sortInbox (huse : ∀ p ∈ s.link.inUse, p.tag ≠ r.tag) (hcached : ∀ y ∈ s.link.cache, y.tag ≠ r.tag) :
    s.LinkMoves (s.sortInbox r) := by
  unfold State.sortInbox
  split
  · next hroom => exact .of_move (.joins r hroom huse hcached) rfl
  · exact (s.linkMoves_count _).trans (State.linkMoves_immediate _ _)

theorem State.linkMoves_sortInUse (hcached : ∀ y ∈ s.link.cache, y.tag ≠ r.tag) : s.LinkMoves (s.sortInUse r) := by
  unfold State.sortInUse
  split
  · split
    · exact s.linkMoves_count _
    · exact s.linkMoves_immediate _
  · next hnone => exact State.linkMoves_sortInbox (by simpa using List.find?_eq_none.mp hnone) hcached

/-- Check 2 leaves no entry with the frame's tag before check 3 is made (R181). -/
theorem State.linkMoves_sortCache (s : State) (r : Request) : s.LinkMoves (s.sortCache r) := by
  unfold State.sortCache
  split
  · split
    · exact (s.linkMoves_count _).trans (State.linkMoves_immediate _ _)
    · have hforget : s.LinkMoves (s.updLink fun k => { k with cache := k.cache.filter fun e => decide (e.tag ≠ r.tag) }) :=
        .of_move (.forgets r.tag) rfl
      exact hforget.trans (State.linkMoves_sortInUse fun y hy => of_decide_eq_true (List.mem_filter.mp hy).2)
  · next hnone => exact State.linkMoves_sortInUse (by simpa using List.find?_eq_none.mp hnone)

theorem State.linkMoves_checkFrame (s : State) (len : Byte) (kept : List Byte) (low high : Byte) :
    s.LinkMoves (s.checkFrame len kept low high) := by
  unfold State.checkFrame
  dsimp only
  split
  · split
    · unfold State.sortFrame
      split
      · exact s.linkMoves_immediate _
      · exact s.linkMoves_sortCache _
    · exact .refl s
  · exact s.linkMoves_count _

theorem State.linkMoves_toHunt (s : State) : s.LinkMoves s.toHunt := .quiet rfl rfl rfl rfl

theorem State.linkMoves_keep (s : State) (x : Receiver) : s.LinkMoves (s.keep x) := .quiet rfl rfl rfl rfl

theorem State.linkMoves_deliver (s : State) (b : Byte) : s.LinkMoves (s.deliver b) := by
  unfold State.deliver
  split
  · split
    · exact s.linkMoves_keep _
    · exact .refl s
  · split
    · exact (s.linkMoves_count _).trans (State.linkMoves_toHunt _)
    · exact s.linkMoves_keep _
  · split
    · exact s.linkMoves_keep _
    · exact s.linkMoves_keep _
  · exact s.linkMoves_keep _
  · exact s.linkMoves_toHunt.trans (State.linkMoves_checkFrame _ _ _ _ _)

theorem State.linkMoves_deliverUnlessBreak (s : State) (b : Byte) : s.LinkMoves (s.deliverUnlessBreak b) := by
  unfold State.deliverUnlessBreak
  split
  · exact .refl s
  · exact s.linkMoves_deliver b

/-! ## The request engine (R185, R187) -/

/-- An executing request is answered. -/
theorem State.linkMoves_answer {e : Executing} (he : s.link.executing = some e) (rep : Reply) :
    s.LinkMoves (s.answer e.request rep) := .of_move (.answers e _ he) rfl

/-- A request is taken and held. -/
theorem State.linkMoves_holdEngine (h : Takes s r rest) (hv : v.link = (s.taken rest).link) (w : Wait) :
    s.LinkMoves (v.holdEngine r w) := by
  obtain ⟨-, hidle, hreplies, hinbox⟩ := h
  refine .of_move (.takes { request := r, waits := w, reportsAtTake := v.reports.queue.length } rest hidle hreplies hinbox) ?_
  rw [State.holdEngine_link, hv]
  rfl

/-- A request is taken and answered in the same step: it executes only within it. -/
theorem State.linkMoves_takenAnswer (h : Takes s r rest) (hv : v.link = (s.taken rest).link) (rep : Reply) :
    s.LinkMoves (v.answer r rep) := by
  have hheld := State.linkMoves_holdEngine h (v := s.taken rest) rfl .hostBlock
  refine (hheld.trans (State.linkMoves_answer rfl rep)).trans (.of_eq ?_)
  rw [State.answer_link, hv]
  rfl

/-- An owner's answer, where the owner has left the link. -/
theorem State.LinkMoves.answered (h : Takes s r rest) (hv : v.link = (s.taken rest).link)
    (hu : (Host.Outcome.next (v.answer r rep) : Host.Outcome State Fault Refusal) = .next u) : s.LinkMoves u := by
  cases hu
  exact State.linkMoves_takenAnswer h hv rep

/-! ## Cancels, the release and ENGINE-RESET -/

theorem State.linkMoves_cancelWaiting (s : State) : s.LinkMoves s.cancelWaiting := by
  rcases State.cancelWaiting_cases (s := s) with ⟨e, i, he, -, h⟩ | ⟨-, h⟩
  · have hcancel : s.LinkMoves (s.cancelAtOnce i) := .of_eq (by simp)
    rw [h]
    exact hcancel.trans (State.linkMoves_answer (by simpa using he) _)
  · rw [h]
    exact .refl s

theorem State.linkMoves_release (s : State) : s.LinkMoves s.release :=
  s.linkMoves_cancelWaiting.trans (.of_eq (by simp [State.release]))

/-- A release that goes on, with its cancel made where its turn has come. -/
theorem State.linkMoves_release_stays (s : State) (now : Prop) [Decidable now] (m : Mover) :
    s.LinkMoves ((if now then s.cancelWaiting else s).setMover m) := by
  split
  · exact s.linkMoves_cancelWaiting.trans (.of_eq rfl)
  · exact .of_eq rfl

theorem State.linkMoves_releaseAt (s : State) (c n : Nat) : s.LinkMoves (s.releaseAt c n) := by
  unfold State.releaseAt
  split
  · exact s.linkMoves_release
  · exact s.linkMoves_release_stays _ _

theorem State.linkMoves_passPoint (s : State) : s.LinkMoves s.passPoint := by
  unfold State.passPoint
  split
  · split
    · exact s.linkMoves_release
    · exact s.linkMoves_release_stays _ _
  · exact .refl s

/-- The link after ENGINE-RESET: the reply is queued, and its entry is the only one of the cache (R193). -/
@[simp] theorem State.link_engineReset (s : State) (r : Request) :
    (s.engineReset r).link = Link.answered { s.link with cache := [] } r ((Reply.bare .ok).frame r.kind r.tag) := by
  simp [State.engineReset, Link.answered]

theorem State.linkMoves_engineReset {e : Executing} (he : s.link.executing = some e) : s.LinkMoves (s.engineReset e.request) := by
  have hempty : s.LinkMoves (s.updLink fun k => { k with cache := [] }) := .of_move .empties rfl
  exact hempty.trans (.of_move (.answers e _ he) (s.link_engineReset _))

/-! ## The element -/

theorem State.linkMoves_endBurst (s : State) (c n : Nat) : s.LinkMoves (s.endBurst c n) := by
  unfold State.endBurst
  split
  · next he =>
    split
    · exact State.linkMoves_engineReset he
    · exact s.linkMoves_releaseAt c n
  · exact s.linkMoves_releaseAt c n

theorem State.linkMoves_elementFails (s : State) (c n : Nat) (i : SlotIx) (l : LegIx) (snap : Snapshot) (cause : FaultCause) :
    s.LinkMoves (s.elementFails c n i l snap cause) := by
  have hfaulted : s.LinkMoves (((s.rollback i l snap).setMover (.releasing 0 0)).enterFaulted i l cause (s.slot i).element) :=
    .of_eq (by simp)
  exact hfaulted.trans (State.linkMoves_endBurst _ c n)

theorem State.linkMoves_cancelActive {e : Executing} (he : s.link.executing = some e) (n : Nat) (i : SlotIx) (l : LegIx) (snap : Snapshot) :
    s.LinkMoves (s.cancelActive n i l snap e.request) := by
  have hidle : s.LinkMoves (((s.rollback i l snap).setMover (.releasing 0 0)).idleFrom i l (s.slot i).element) := .of_eq (by simp)
  exact (hidle.trans (State.linkMoves_answer (by simpa using he) _)).trans (State.linkMoves_releaseAt _ 0 n)

theorem State.linkMoves_midBurst (s : State) (n : Nat) (i : SlotIx) (l : LegIx) (snap : Snapshot) :
    s.LinkMoves (s.midBurst n i l snap) := by
  have hcheck : s.LinkMoves (s.preemptionCheck i l snap) := .of_eq (by simp)
  unfold State.midBurst
  split
  · next he =>
    split
    · split
      · exact State.linkMoves_cancelActive he n i l snap
      · exact hcheck
    · exact State.linkMoves_engineReset he
    · exact hcheck
  · exact hcheck

theorem State.linkMoves_elementCompletes (s : State) (c n : Nat) (i : SlotIx) (l : LegIx) (rec : LegRecord) (snap : Snapshot) :
    s.LinkMoves (s.elementCompletes c n i l rec snap) := by
  have hrise : s.LinkMoves (s.updSlot i fun x => { x with element := x.element + 1 }) := .of_eq rfl
  have hcommit : s.LinkMoves (s.commit i l rec) := .of_eq (by simp)
  unfold State.elementCompletes
  split
  · exact hrise.trans (State.linkMoves_midBurst _ n i l snap)
  · exact hcommit.trans (State.linkMoves_endBurst _ c n)

theorem State.link_elementRead {x : Slot} {w : Word} (h : s.elementRead rec x = .word w t) : t.link = s.link := by
  unfold State.elementRead at h
  repeat' split at h
  all_goals cases h
  all_goals rfl

theorem State.link_elementWrite {x : Slot} {w : Word} (h : s.elementWrite rec x w = .ok t) : t.link = s.link := by
  unfold State.elementWrite at h
  repeat' split at h
  all_goals cases h
  all_goals rfl

/-- What the six steps of an element come to where they are taken: the read, the write, and the slot's steps (R52). -/
theorem State.elementSteps_moved {fences : Vector Fence 8} (h : s.elementSteps fences i rec = .moved t) :
    ∃ (w : Word) (u v : State), s.elementRead rec (s.slot i) = .word w u ∧ u.elementWrite rec (s.slot i) w = .ok v ∧
      t = v.updSlot i fun x => x.stepped rec w := by
  unfold State.elementSteps at h
  split at h
  · cases h
  · split at h
    · cases h
    · split at h
      · cases h
      · cases h
      · next hread =>
        split at h
        · cases h
        · next hwrite =>
          cases h
          exact ⟨_, _, _, hread, hwrite, rfl⟩

theorem State.link_elementSteps {fences : Vector Fence 8} (h : s.elementSteps fences i rec = .moved t) : t.link = s.link := by
  obtain ⟨w, u, v, hread, hwrite, rfl⟩ := State.elementSteps_moved h
  exact (State.link_elementWrite hwrite).trans (State.link_elementRead hread)

@[simp] theorem State.link_giveBackGrant (s : State) (rec : LegRecord) : (s.giveBackGrant rec).link = s.link := by
  rw [State.giveBackGrant_eq]

theorem State.linkMoves_runElement {order : ElementOrder} (h : s.runElement order i l rec snap = .next t) : s.LinkMoves t := by
  unfold State.runElement at h
  split at h <;> cases h
  · next hsteps =>
    exact (State.LinkMoves.of_eq ((State.link_giveBackGrant _ rec).trans (State.link_elementSteps hsteps))).trans
      (State.linkMoves_elementCompletes _ _ _ i l rec snap)
  · exact (State.LinkMoves.of_eq (s.link_giveBackGrant rec)).trans (State.linkMoves_elementFails _ _ _ i l snap _)

theorem linkMoves_execElement {order : ElementOrder} (h : execElement order s = .next u) : s.LinkMoves u := by
  unfold execElement at h
  split at h
  · split at h
    · split at h
      · split at h
        · split at h
          · cases h
            exact .refl s
          · exact State.linkMoves_runElement h
        · cases h
      · cases h
    · cases h
      exact s.linkMoves_release
    · cases h
      exact .refl s
  · cases h
    exact .refl s

/-! ## The trigger table, the host block, the ports and the transmitter -/

theorem State.linkMoves_scan (s : State) (x : SlotEvent) : s.LinkMoves (s.scan x) := by
  unfold State.scan
  generalize List.finRange 32 = ks
  induction ks generalizing s with
  | nil => exact s.linkMoves_passPoint
  | cons k ks ih =>
    have hfire : s.passPoint.LinkMoves (s.passPoint.fireEntry x k) := .of_eq (by simp [State.fireEntry_frame])
    exact (s.linkMoves_passPoint.trans hfire).trans (ih _)

/-- A granted block writes words of the buffer and is answered (R146). -/
theorem State.link_runBlock (s : State) (r : Request) : ∃ rep : Reply, (s.runBlock r).link = (s.answer r rep).link := by
  have hwrite : ∃ rep : Reply, (s.runWriteBlock r).link = (s.answer r rep).link := by
    unfold State.runWriteBlock
    split
    · exact ⟨_, rfl⟩
    · rw [State.writeWords_frame]
      exact ⟨_, rfl⟩
  have hread : ∃ rep : Reply, (s.runReadBlock r).link = (s.answer r rep).link := by
    unfold State.runReadBlock
    dsimp only
    split
    · exact ⟨_, rfl⟩
    · split <;> exact ⟨_, rfl⟩
  unfold State.runBlock
  split
  · exact hwrite
  · exact hread

theorem State.linkMoves_runBlock {e : Executing} (he : s.link.executing = some e) : s.LinkMoves (s.runBlock e.request) := by
  obtain ⟨rep, h⟩ := s.link_runBlock e.request
  exact (State.linkMoves_answer he rep).trans (.of_eq h)

@[simp] theorem State.link_arrive (s : State) (p : PortIx) (w : Word) : (s.arrive p w).link = s.link := by
  unfold State.arrive
  split
  · split
    · simp
    · unfold State.overruns
      dsimp only
      split <;> rfl
  · rfl

@[simp] theorem State.link_takeWord (s : State) (p : PortIx) : (s.takeWord p).link = s.link := by
  unfold State.takeWord
  split
  · split
    · split
      · simp
      · unfold State.underruns
        dsimp only
        split <;> rfl
    · rfl
  · rfl

@[simp] theorem State.link_paceExpires (s : State) (i : SlotIx) : (s.paceExpires i).link = s.link := by
  unfold State.paceExpires
  split
  · simp
  · rfl

theorem State.linkMoves_sendReport (s : State) (x : Report) : s.LinkMoves (s.sendReport x) := .quiet rfl rfl rfl rfl

/-- The oldest reply leaves the queue (R189). -/
theorem State.linkMoves_sendReply {f : Frame} {fs : List Frame} (h : s.link.replies = f :: fs) : s.LinkMoves (s.sendReply f fs) := by
  have hsent : s.LinkMoves (s.updLink fun k => { k with replies := fs }) := .of_move (.sends f fs h) rfl
  exact hsent.trans (.quiet rfl rfl rfl rfl)

theorem State.linkMoves_choose (s : State) : s.LinkMoves s.choose := by
  unfold State.choose
  split
  · next hreplies => exact State.linkMoves_sendReply hreplies
  · split
    · exact s.linkMoves_sendReport _
    · exact .refl s

theorem State.link_resumeFaulted {cause : FaultCause} (h : s.resumeFaulted i l cause = .done t) : t.link = s.link := by
  unfold State.resumeFaulted at h
  repeat' split at h
  all_goals cases h
  all_goals simp

end Sys2Proof.Machine
end

section
/-! # Every step is a chain of changes of the link, and keeps its law (O53) -/

namespace Sys2Proof.Machine

variable {s t u v : State} {k : ReqKind} {r : Request} {rest : List Request}

/-! ## The kinds of row -/

/-- A request row moves the link where the engine takes its request and the owner moves it; the engine's own refusal is an answer. -/
theorem linkMoves_serve {owner : Request → State → Host.Outcome State Fault Refusal}
    (howner : ∀ {r rest u}, Takes s r rest → owner r (s.taken rest) = .next u → s.LinkMoves u) (h : s.serve k owner = .next u) :
    s.LinkMoves u := by
  rcases s.serve_cases k owner with ⟨-, hserve⟩ | ⟨r, t, st, htake, -, hserve⟩ | ⟨r, t, htake, -, hserve⟩
  · cases hserve.symm.trans h
    exact .refl s
  · obtain ⟨hphase, hidle, hreplies, rest, hinbox, -, rfl⟩ := State.takeRequest?_eq_some.mp htake
    exact .answered ⟨hphase, hidle, hreplies, hinbox⟩ rfl (hserve.symm.trans h)
  · obtain ⟨hphase, hidle, hreplies, rest, hinbox, -, rfl⟩ := State.takeRequest?_eq_some.mp htake
    exact howner ⟨hphase, hidle, hreplies, hinbox⟩ (hserve.symm.trans h)

/-- A request row whose owner leaves the link. -/
theorem linkMoves_serveNow {owner : List Byte → State → State × Reply} (howner : ∀ b (t : State), (owner b t).1.link = t.link)
    (h : s.serveNow k owner = .next u) : s.LinkMoves u :=
  linkMoves_serve (fun htakes hu => .answered htakes (howner _ _) hu) h

/-- A slot request answers RANGE and changes nothing, or acts on its slot (R22). -/
theorem linkMoves_slotRow {f : List Byte → State → SlotIx → State × Reply} (hf : ∀ b (t : State) i, (f b t i).1.link = t.link)
    (h : s.serveNow k (fun b t => withSlot b t (f b t)) = .next u) : s.LinkMoves u := by
  refine linkMoves_serveNow (fun b t => ?_) h
  unfold withSlot
  split
  · rfl
  · exact hf b t _

theorem linkMoves_whenRunning {f : State → State} (hf : ∀ t : State, t.LinkMoves (f t)) (h : s.whenRunning f = .next u) :
    s.LinkMoves u := State.whenRunning_keeps (P := s.LinkMoves) (fun hs => hs.trans (hf _)) (.refl s) h

/-! ## The link's own requests -/

theorem linkMoves_execHello (h : execHello s = .next u) : s.LinkMoves u := linkMoves_serveNow (fun _ _ => rfl) h

/-- LINK_STATUS may clear the counters, which the law does not speak of (R192). -/
theorem linkMoves_execLinkStatus (h : execLinkStatus s = .next u) : s.LinkMoves u := by
  refine linkMoves_serve (fun {r rest u} htakes hu => ?_) h
  have hanswer (rep : Reply) := State.linkMoves_takenAnswer htakes (v := s.taken rest) rfl rep
  cases hu
  dsimp only
  split
  · exact (hanswer _).trans (.quiet rfl rfl rfl rfl)
  · exact hanswer _

/-- ENGINE_RESET holds the engine, or empties the cache and is answered (R193). -/
theorem linkMoves_execEngineReset (h : execEngineReset s = .next u) : s.LinkMoves u := by
  refine linkMoves_serve (fun {r rest u} htakes hu => ?_) h
  split at hu <;> cases hu
  · exact State.linkMoves_holdEngine htakes rfl _
  · have hheld := State.linkMoves_holdEngine htakes (v := s.taken rest) rfl .engineReset
    refine (hheld.trans (State.linkMoves_engineReset rfl)).trans (.of_eq ?_)
    rw [State.link_engineReset, State.link_engineReset]
    rfl

/-! ## The slot table -/

theorem linkMoves_execSlotSetup (h : execSlotSetup s = .next u) : s.LinkMoves u := by
  refine linkMoves_slotRow (fun b t i => ?_) h
  split
  · rfl
  · split
    · split <;> rfl
    · rfl

theorem linkMoves_execSlotArm (h : execSlotArm s = .next u) : s.LinkMoves u := by
  refine linkMoves_slotRow (fun b t i => ?_) h
  split
  · next harm => simp [State.arm_frame harm]
  · rfl

theorem linkMoves_execSlotStart (h : execSlotStart s = .next u) : s.LinkMoves u := by
  refine linkMoves_slotRow (fun b t i => ?_) h
  split
  · split
    · next hadd => simp [State.addCredits_frame hadd]
    · rfl
  · rfl

theorem linkMoves_execSlotHold (h : execSlotHold s = .next u) : s.LinkMoves u := by
  refine linkMoves_slotRow (fun b t i => ?_) h
  split
  · next hhold => simp [State.hold?_frame hhold]
  · rfl

theorem linkMoves_execSlotResume (h : execSlotResume s = .next u) : s.LinkMoves u := by
  refine linkMoves_serve (fun {r rest u} htakes hu => ?_) h
  split at hu
  · exact .answered htakes rfl hu
  · split at hu
    · exact .answered htakes (by simp) hu
    · split at hu
      · exact .answered (v := (s.taken rest).updSlot _ _) htakes rfl hu
      · exact .answered htakes rfl hu
    · split at hu
      · exact .answered (v := (s.taken rest).updSlot _ _) htakes rfl hu
      · exact .answered htakes rfl hu
    · split at hu
      · next hresumed => exact .answered htakes (State.link_resumeFaulted hresumed) hu
      · exact .answered htakes rfl hu
      · cases hu
    · exact .answered htakes rfl hu

theorem linkMoves_execSlotCancel (h : execSlotCancel s = .next u) : s.LinkMoves u := by
  refine linkMoves_serve (fun {r rest u} htakes hu => ?_) h
  split at hu
  · exact .answered htakes rfl hu
  · split at hu
    · exact .answered htakes rfl hu
    · cases hu
      exact State.linkMoves_holdEngine htakes rfl _
    · exact .answered htakes (by simp) hu

theorem linkMoves_execSlotQuery (h : execSlotQuery s = .next u) : s.LinkMoves u := linkMoves_slotRow (fun _ _ _ => rfl) h

/-! ## The buffer -/

theorem State.linkMoves_startBlock (h : Takes s r rest) (o : AskOrder) : s.LinkMoves ((s.taken rest).startBlock r o) :=
  State.linkMoves_holdEngine h (by simp) _

theorem linkMoves_execBufWrite {o : AskOrder} (h : execBufWrite o s = .next u) : s.LinkMoves u := by
  refine linkMoves_serve (fun {r rest u} htakes hu => ?_) h
  split at hu
  · cases hu
    exact State.linkMoves_startBlock htakes o
  · exact .answered htakes rfl hu

theorem linkMoves_execBufRead {o : AskOrder} (h : execBufRead o s = .next u) : s.LinkMoves u := by
  refine linkMoves_serve (fun {r rest u} htakes hu => ?_) h
  split at hu
  · split at hu
    · cases hu
      exact State.linkMoves_startBlock htakes o
    · exact .answered htakes rfl hu
  · exact .answered htakes rfl hu

theorem linkMoves_execHostBlockGrant (h : execHostBlockGrant s = .next u) : s.LinkMoves u := by
  refine linkMoves_whenRunning (fun t => ?_) h
  split
  · next he =>
    split
    · exact (State.linkMoves_runBlock he).trans (.of_eq rfl)
    · exact .refl t
  · exact .refl t

theorem linkMoves_execFenceSet (h : execFenceSet s = .next u) : s.LinkMoves u := by
  refine linkMoves_serveNow (fun b t => ?_) h
  split
  · rfl
  · split <;> simp

theorem linkMoves_execFenceRead (h : execFenceRead s = .next u) : s.LinkMoves u :=
  linkMoves_serveNow (fun b t => by split <;> rfl) h

/-! ## The leg store -/

theorem linkMoves_execLegLoad (h : execLegLoad s = .next u) : s.LinkMoves u := by
  refine linkMoves_serveNow (fun b t => ?_) h
  split
  · rfl
  · split
    · rfl
    · split <;> rfl

theorem linkMoves_execLegRead (h : execLegRead s = .next u) : s.LinkMoves u :=
  linkMoves_serveNow (fun b t => by split <;> rfl) h

theorem linkMoves_execLegLink (h : execLegLink s = .next u) : s.LinkMoves u := by
  refine linkMoves_serveNow (fun b t => ?_) h
  split
  · rfl
  · split
    · rfl
    · split <;> rfl

/-! ## The triggers, the ports and the reports -/

theorem linkMoves_execTrigSet (h : execTrigSet s = .next u) : s.LinkMoves u := by
  refine linkMoves_serveNow (fun b t => ?_) h
  split
  · rfl
  · split <;> rfl

theorem linkMoves_execTrigRead (h : execTrigRead s = .next u) : s.LinkMoves u :=
  linkMoves_serveNow (fun b t => by split <;> rfl) h

theorem linkMoves_execTriggerEvent (h : execTriggerEvent s = .next u) : s.LinkMoves u := by
  refine linkMoves_whenRunning (fun t => ?_) h
  split
  · exact .refl t
  · next x rest _ =>
    have htaken : t.LinkMoves { t with events := rest } := .of_eq rfl
    exact htaken.trans (State.linkMoves_scan _ x)

theorem linkMoves_execPortSetup (h : execPortSetup s = .next u) : s.LinkMoves u := by
  refine linkMoves_serveNow (fun b t => ?_) h
  split
  · rfl
  · split
    · rfl
    · split
      · split <;> simp
      · rfl

theorem linkMoves_execPortQuery (h : execPortQuery s = .next u) : s.LinkMoves u := by
  refine linkMoves_serveNow (fun b t => ?_) h
  split
  · rfl
  · dsimp only
    split <;> rfl

theorem linkMoves_execReportAck (h : execReportAck s = .next u) : s.LinkMoves u :=
  linkMoves_serveNow (fun b t => by split <;> rfl) h

theorem linkMoves_execReportReplay (h : execReportReplay s = .next u) : s.LinkMoves u :=
  linkMoves_serveNow (fun b t => by split <;> rfl) h

theorem linkMoves_execReportGate (h : execReportGate s = .next u) : s.LinkMoves u := linkMoves_serveNow (fun _ _ => rfl) h

/-! ## The line, the transmitter and the resets -/

theorem linkMoves_execFrameReceived {b : Byte} (h : execFrameReceived b s = .next u) : s.LinkMoves u := by
  refine linkMoves_whenRunning (fun t => ?_) h
  split
  · exact t.linkMoves_deliverUnlessBreak b
  · exact .refl t

theorem linkMoves_execLengthError {b : Byte} (h : execLengthError b s = .next u) : s.LinkMoves u := by
  refine linkMoves_whenRunning (fun t => ?_) h
  split
  · exact t.linkMoves_deliverUnlessBreak b
  · exact .refl t

theorem linkMoves_execGapTimeout (h : execGapTimeout s = .next u) : s.LinkMoves u :=
  linkMoves_whenRunning (fun t => by split <;> exact .quiet rfl rfl rfl rfl) h

theorem linkMoves_execLineBreak (h : execLineBreak s = .next u) : s.LinkMoves u :=
  linkMoves_whenRunning (fun t => by split <;> exact .quiet rfl rfl rfl rfl) h

theorem linkMoves_execLineHighAfterBreak (h : execLineHighAfterBreak s = .next u) : s.LinkMoves u := by
  refine linkMoves_whenRunning (fun t => ?_) h
  exact .quiet rfl rfl rfl rfl

theorem linkMoves_execTransmitReply (h : execTransmitReply s = .next u) : s.LinkMoves u := by
  refine linkMoves_whenRunning (fun t => ?_) h
  split
  · next hreplies => exact State.linkMoves_sendReply hreplies
  · exact .refl t

theorem linkMoves_execTransmitReport (h : execTransmitReport s = .next u) : s.LinkMoves u := by
  refine linkMoves_whenRunning (fun t => ?_) h
  split
  · exact t.linkMoves_sendReport _
  · exact .refl t

theorem linkMoves_execFrameSent (h : execFrameSent s = .next u) : s.LinkMoves u := by
  refine linkMoves_whenRunning (fun t => ?_) h
  split
  · have hfree : t.LinkMoves (t.updLink fun k => { k with transmitter := .free }) := .quiet rfl rfl rfl rfl
    exact hfree.trans (State.linkMoves_choose _)
  · exact .refl t

theorem linkMoves_execPowerReset (h : execPowerReset s = .next u) : s.LinkMoves u := by
  cases h
  exact .of_move .powerReset rfl

theorem linkMoves_execResetRelease {straps : BitVec 2} (h : execResetRelease straps s = .next u) : s.LinkMoves u := by
  cases h
  split
  · exact .quiet rfl rfl rfl rfl
  · exact .refl s

theorem linkMoves_execStartUpEnd (h : execStartUpEnd s = .next u) : s.LinkMoves u := by
  cases h
  split
  · exact .quiet rfl rfl rfl rfl
  · exact .refl s

theorem linkMoves_execUpset {x : Upset} (h : execUpset x s = .next u) : s.LinkMoves u := by
  unfold execUpset at h
  split at h <;> cases h <;> exact .of_eq rfl

/-! ## Every command and every step -/

theorem exec_linkMoves {c : Instr} (h : exec c s = .next u) : s.LinkMoves u := by
  cases c with
  | powerReset => exact linkMoves_execPowerReset h
  | resetRelease straps => exact linkMoves_execResetRelease h
  | startUpEnd => exact linkMoves_execStartUpEnd h
  | upset x => exact linkMoves_execUpset h
  | frameReceived b => exact linkMoves_execFrameReceived h
  | lengthError b => exact linkMoves_execLengthError h
  | byteDelivered b => exact linkMoves_whenRunning (fun t => t.linkMoves_deliverUnlessBreak b) h
  | gapTimeout => exact linkMoves_execGapTimeout h
  | lineBreak => exact linkMoves_execLineBreak h
  | lineHighAfterBreak => exact linkMoves_execLineHighAfterBreak h
  | transmitReply => exact linkMoves_execTransmitReply h
  | transmitReport => exact linkMoves_execTransmitReport h
  | frameSent => exact linkMoves_execFrameSent h
  | hello => exact linkMoves_execHello h
  | linkStatus => exact linkMoves_execLinkStatus h
  | engineReset => exact linkMoves_execEngineReset h
  | bufWrite o => exact linkMoves_execBufWrite h
  | bufRead o => exact linkMoves_execBufRead h
  | hostBlockGrant => exact linkMoves_execHostBlockGrant h
  | fenceSet => exact linkMoves_execFenceSet h
  | fenceRead => exact linkMoves_execFenceRead h
  | legLoad => exact linkMoves_execLegLoad h
  | legRead => exact linkMoves_execLegRead h
  | legLink => exact linkMoves_execLegLink h
  | slotSetup => exact linkMoves_execSlotSetup h
  | slotArm => exact linkMoves_execSlotArm h
  | slotStart => exact linkMoves_execSlotStart h
  | slotHold => exact linkMoves_execSlotHold h
  | slotResume => exact linkMoves_execSlotResume h
  | slotCancel => exact linkMoves_execSlotCancel h
  | slotQuery => exact linkMoves_execSlotQuery h
  | trigSet => exact linkMoves_execTrigSet h
  | trigRead => exact linkMoves_execTrigRead h
  | triggerEvent => exact linkMoves_execTriggerEvent h
  | portSetup => exact linkMoves_execPortSetup h
  | portQuery => exact linkMoves_execPortQuery h
  | wordArrival p w => exact linkMoves_whenRunning (fun t => .of_eq (t.link_arrive p w)) h
  | wordTake p => exact linkMoves_whenRunning (fun t => .of_eq (t.link_takeWord p)) h
  | reportAck => exact linkMoves_execReportAck h
  | reportReplay => exact linkMoves_execReportReplay h
  | reportGate => exact linkMoves_execReportGate h
  | element o => exact linkMoves_execElement h
  | paceExpiry i => exact linkMoves_whenRunning (fun t => .of_eq (t.link_paceExpires i)) h

theorem step_linkMoves (h : step s = .next t) : s.LinkMoves t := by
  unfold step at h
  split at h
  · cases h
    exact .quiet rfl rfl rfl rfl
  · next rest _ =>
    have hqueue : s.LinkMoves { s with pending := rest } := .of_eq rfl
    exact hqueue.trans (exec_linkMoves h)

end Sys2Proof.Machine

namespace Sys2Proof

open Machine

/-- Settles O53: a step is a chain of changes of the link, and each of them keeps the law. -/
theorem linkLawKept : Obligations.LinkLawKept := fun _ _ hs h => Link.Moves.linkLaw (step_linkMoves h) hs

end Sys2Proof
end

section
/-! # The sorting of a good frame (O7)

The checks of R180–R183 search the cache and the requests in use for the frame's TAG and look at the CRC of what they find; the statement
searches for TAG and CRC together. With distinct tags (`LinkLaw`) the two come to the same. -/

namespace Sys2Proof.Machine

variable {s : State} {r : Request}

/-! ## A search by a key that no two entries share -/

section Keys

variable {α β : Type} [DecidableEq β] {key : α → β} {p : α → Prop} {xs : List α} {b : β} {x : α}

/-- The entry with a key lacks the further property, and no other entry can have both. -/
theorem forall_not_key_and_of_neg (hkeys : (xs.map key).Nodup) (h : xs.find? (fun y => decide (key y = b)) = some x) (hp : ¬ p x) :
    ∀ y ∈ xs, ¬ (key y = b ∧ p y) := by
  rintro y hy ⟨hkey, hpy⟩
  have hx : key x = b := by simpa using List.find?_some h
  exact hp (List.inj_on_of_nodup_map hkeys hy (List.mem_of_find?_eq_some h) (hkey.trans hx.symm) ▸ hpy)

/-- The entry with a key has the further property, and is found by both. -/
theorem find?_key_and_of_pos [DecidablePred p] (hkeys : (xs.map key).Nodup) (h : xs.find? (fun y => decide (key y = b)) = some x)
    (hp : p x) : xs.find? (fun y => decide (key y = b ∧ p y)) = some x := by
  have hkey : key x = b := by simpa using List.find?_some h
  have hx := List.mem_of_find?_eq_some h
  cases hfind : xs.find? (fun y => decide (key y = b ∧ p y)) with
  | none => exact absurd (decide_eq_true (show key x = b ∧ p x from ⟨hkey, hp⟩)) (List.find?_eq_none.mp hfind x hx)
  | some y =>
    have hy : key y = b ∧ p y := by simpa using List.find?_some hfind
    rw [List.inj_on_of_nodup_map hkeys hx (List.mem_of_find?_eq_some hfind) (hkey.trans hy.1.symm)]

end Keys

/-! ## The link a sorted frame leaves -/

/-- An immediate reply is queued below 12 replies and reserved places, and is dropped and counted otherwise (R188). -/
def Link.immediate (k : Link) (f : Frame) : Link :=
  if k.replies.length + k.reserved < Config.replyCap then { k with replies := k.replies ++ [f] }
  else { k with counters := { k.counters with replyDrops := bump k.counters.replyDrops } }

theorem State.immediate_eq (s : State) (f : Frame) : s.immediate f = { s with link := s.link.immediate f } := by
  unfold Link.immediate
  rcases State.immediate_cases (s := s) f with ⟨hroom, h⟩ | ⟨hfull, h⟩
  · rw [h, if_pos hroom]
    rfl
  · rw [h, if_neg (Nat.not_lt.mpr hfull)]
    rfl

/-- Check 4 (R183). -/
def Link.sortInbox (k : Link) (r : Request) : Link :=
  if k.inbox.length < Config.inboxCap then { k with inbox := k.inbox ++ [r] }
  else
    Link.immediate { k with counters := { k.counters with fullRejects := bump k.counters.fullRejects } }
      { kind := r.kind.code + 0x80, tag := r.tag, body := [0x01] }

theorem State.sortInbox_eq (s : State) (r : Request) : s.sortInbox r = { s with link := s.link.sortInbox r } := by
  unfold State.sortInbox Link.sortInbox
  split
  · rfl
  · exact State.immediate_eq _ _

/-- Check 3 (R182), and what follows it. -/
def Link.sortInUse (k : Link) (r : Request) : Link :=
  if k.inUse.any fun q => decide (q.tag = r.tag ∧ q.crc = r.crc) then
    { k with counters := { k.counters with duplicates := bump k.counters.duplicates } }
  else if k.inUse.any fun q => decide (q.tag = r.tag) then
    k.immediate { kind := r.kind.code + 0x80, tag := r.tag, body := [0x02] }
  else k.sortInbox r

theorem State.sortInUse_eq (huse : (s.link.inUse.map (·.tag)).Nodup) : s.sortInUse r = { s with link := s.link.sortInUse r } := by
  unfold State.sortInUse Link.sortInUse
  split
  · next q hfind =>
    have hq : q ∈ s.link.inUse ∧ q.tag = r.tag := ⟨List.mem_of_find?_eq_some hfind, by simpa using List.find?_some hfind⟩
    split
    · next hcrc =>
      rw [if_pos (List.any_eq_true.mpr ⟨q, hq.1, by simpa using ⟨hq.2, hcrc⟩⟩)]
      rfl
    · next hcrc =>
      have hother := forall_not_key_and_of_neg (p := fun x => x.crc = r.crc) huse hfind hcrc
      rw [if_neg (by simpa using hother), if_pos (List.any_eq_true.mpr ⟨q, hq.1, by simpa using hq.2⟩), State.immediate_eq]
      rfl
  · next hnone =>
    have hfresh : ∀ q ∈ s.link.inUse, q.tag ≠ r.tag := by simpa using List.find?_eq_none.mp hnone
    rw [if_neg (by simpa using fun q hq htag => absurd htag (hfresh q hq)), if_neg (by simpa using hfresh), State.sortInbox_eq]

/-- Check 2 (R181), and what follows it. -/
def Link.sortCache (k : Link) (r : Request) : Link :=
  match k.cache.find? fun e => decide (e.tag = r.tag ∧ e.crc = r.crc) with
  | some e => Link.immediate { k with counters := { k.counters with replays := bump k.counters.replays } } e.reply
  | none => Link.sortInUse { k with cache := k.cache.filter fun e => decide (e.tag ≠ r.tag) } r

theorem State.sortCache_eq (huse : (s.link.inUse.map (·.tag)).Nodup) (hcached : (s.link.cache.map (·.tag)).Nodup) :
    s.sortCache r = { s with link := s.link.sortCache r } := by
  unfold State.sortCache Link.sortCache
  split
  · next e hfind =>
    split
    · next hcrc =>
      rw [find?_key_and_of_pos (p := fun x => x.crc = r.crc) hcached hfind hcrc, State.immediate_eq]
      rfl
    · next hcrc =>
      have hother := forall_not_key_and_of_neg (p := fun x => x.crc = r.crc) hcached hfind hcrc
      rw [List.find?_eq_none.mpr (by simpa using hother)]
      exact State.sortInUse_eq huse
  · next hnone =>
    have hfresh : ∀ e ∈ s.link.cache, e.tag ≠ r.tag := by simpa using List.find?_eq_none.mp hnone
    have hfilter : (s.link.cache.filter fun e => decide (e.tag ≠ r.tag)) = s.link.cache :=
      List.filter_eq_self.mpr fun e he => decide_eq_true (hfresh e he)
    rw [List.find?_eq_none.mpr (by simpa using fun e he htag => absurd htag (hfresh e he)), hfilter]
    exact State.sortInUse_eq huse

/-! ## The last byte of a frame -/

theorem ReqKind.code_of_ofCode? {b : Byte} {q : ReqKind} (h : ReqKind.ofCode? b = some q) : q.code = b := by
  simpa using List.find?_some h

/-- FRAME_RECEIVED is the delivery of the byte that completes a frame (R176, R177). -/
theorem exec_frameReceived_eq {b low len : Byte} {kept : List Byte} (hrun : s.phase = .running)
    (hcheck : s.link.receiver = .check len kept (some low)) : exec (.frameReceived b) s = exec (.byteDelivered b) s := by
  show execFrameReceived b s = execByteDelivered b s
  unfold execFrameReceived execByteDelivered
  rw [State.whenRunning_of_running hrun, State.whenRunning_of_running hrun, if_pos (by rw [hcheck]; rfl)]

theorem exec_byteDelivered_eq {b : Byte} (hrun : s.phase = .running) (hbreak : s.link.breakHeld = false) :
    exec (.byteDelivered b) s = .next (s.deliver b) := by
  show execByteDelivered b s = _
  rw [execByteDelivered, State.whenRunning_of_running hrun, State.deliverUnlessBreak, if_neg (by simp [hbreak])]

theorem State.deliver_of_last {b low len : Byte} {kept : List Byte} (hcheck : s.link.receiver = .check len kept (some low)) :
    s.deliver b = s.toHunt.checkFrame len kept low b := by
  simp only [State.deliver, hcheck]

end Sys2Proof.Machine

namespace Sys2Proof

open Machine

/-- Settles O7: the frame check, the KIND, and the three searches of the sorting. -/
theorem frameReceivedSortsTheFrame : Obligations.FrameReceivedSortsTheFrame := by
  intro s len kind tag low high body hrun hbreak hcheck crc k queued after hlaw
  obtain ⟨-, -, -, huse, hcached, -⟩ := hlaw
  rw [exec_frameReceived_eq hrun hcheck, and_self, exec_byteDelivered_eq hrun hbreak, State.deliver_of_last hcheck]
  refine congrArg Host.Outcome.next ?_
  unfold State.checkFrame
  dsimp only
  by_cases hcrc : frameCrc (len :: kind :: tag :: body) = crc
  · have hafter : after = _ := if_neg (not_not_intro hcrc)
    rw [if_pos (show _ = BitVec.ofNat 16 (leNat [low, high]) from hcrc), hafter]
    unfold State.sortFrame
    cases hkind : ReqKind.ofCode? kind with
    | none => exact State.immediate_eq _ _
    | some q =>
      rw [← ReqKind.code_of_ofCode? hkind]
      exact State.sortCache_eq (s := s.toHunt) huse hcached
  · have hafter : after = _ := if_pos hcrc
    rw [if_neg (show ¬ _ = BitVec.ofNat 16 (leNat [low, high]) from hcrc), hafter]
    rfl

end Sys2Proof
end

section
/-! # The body checks of the request engine, and HELLO (O10, O11) -/

namespace Sys2Proof.Machine

variable {s : State} {r : Request} {rest : List Request} {k : ReqKind} {st : Status} {b : List Byte}

/-! ## The two checks (R186) -/

theorem bodyRefusal?_length (h : k.lengthOk b.length = false) : bodyRefusal? k b = some .length := by
  simp [bodyRefusal?, h]

theorem bodyRefusal?_field (hlength : k.lengthOk b.length = true) (h : k.unusedClear b = false) : bodyRefusal? k b = some .field := by
  simp [bodyRefusal?, hlength, h]

/-! ## A request row whose request is refused, or that takes none -/

/-- Every request row of the table is the service of a request of its kind (R185). -/
theorem exec_eq_serve {c : Instr} (h : commandKind c = some k) :
    ∃ owner : Request → State → Host.Outcome State Fault Refusal, ∀ s : State, exec c s = s.serve k owner := by
  cases c <;> cases h <;> exact ⟨_, fun _ => rfl⟩

theorem State.serve_of_refused (h : Takes s r rest) (hk : r.kind = k) (hb : bodyRefusal? k r.body = some st)
    (owner : Request → State → Host.Outcome State Fault Refusal) :
    s.serve k owner = .next { s with link := replied s.link r rest st [] } := by
  obtain ⟨hphase, hidle, hreplies, hinbox⟩ := h
  have htake : s.takeRequest? k = some (r, s.taken rest) :=
    State.takeRequest?_eq_some.mpr ⟨hphase, hidle, hreplies, rest, hinbox, hk, rfl⟩
  simp only [State.serve, htake, hb]
  exact congrArg Host.Outcome.next (State.answer_of_taken rfl (Reply.bare st))

theorem State.serve_of_not_takes (h : ∀ r rest, Takes s r rest → r.kind ≠ k)
    (owner : Request → State → Host.Outcome State Fault Refusal) : s.serve k owner = .next s := by
  have hnone : s.takeRequest? k = none := by
    rw [Option.eq_none_iff_forall_ne_some]
    rintro ⟨r, t⟩ htake
    obtain ⟨hphase, hidle, hreplies, rest, hinbox, hkind, -⟩ := State.takeRequest?_eq_some.mp htake
    exact h r rest ⟨hphase, hidle, hreplies, hinbox⟩ hkind
  simp only [State.serve, hnone]

/-- The front request is of another kind, so the engine takes none of this kind. -/
theorem not_takes_of_kind_ne (h : Takes s r rest) (hne : r.kind ≠ k) : ∀ q qs, Takes s q qs → q.kind ≠ k := by
  rintro q qs ⟨-, -, -, hq⟩
  obtain ⟨-, -, -, hr⟩ := h
  obtain ⟨rfl, -⟩ := List.cons.inj (hr.symm.trans hq)
  exact hne

/-! ## The tables of R201 -/

/-- A BUF-WRITE body is an address and 1 to 60 words. -/
theorem lengthOk_bufWrite_iff (n : Nat) : ReqKind.lengthOk .bufWrite n = true ↔ ∃ w, 1 ≤ w ∧ w ≤ 60 ∧ n = 2 + 4 * w := by
  have hcap : Config.blockCap = 60 := rfl
  simp only [ReqKind.lengthOk, hcap, Bool.and_eq_true, decide_eq_true_eq]
  constructor
  · intro h
    exact ⟨(n - 2) / 4, by omega, by omega, by omega⟩
  · rintro ⟨w, hmin, hmax, rfl⟩
    omega

end Sys2Proof.Machine

namespace Sys2Proof

open Machine

/-- Settles O10: every request row is a service, which refuses the body before its owner sees it; the lengths and bits by the tables. -/
theorem requestBodiesAreChecked : Obligations.RequestBodiesAreChecked := by
  refine ⟨fun c k s hc => ?_, fun n => ?_, fun k b => ?_⟩
  · obtain ⟨owner, hserve⟩ := exec_eq_serve hc
    rw [hserve]
    exact ⟨fun r rest htakes hkind hlength => State.serve_of_refused htakes hkind (bodyRefusal?_length hlength) owner,
      fun r rest htakes hkind hlength hbits => State.serve_of_refused htakes hkind (bodyRefusal?_field hlength hbits) owner,
      fun hnone => State.serve_of_not_takes hnone owner⟩
  · refine ⟨?_, ?_, ?_, ?_, ?_, ?_, ?_, ?_, ?_, ?_, lengthOk_bufWrite_iff n⟩ <;> simp [ReqKind.lengthOk]
  · cases k <;> simp [ReqKind.unusedClear, ReqKind.flagsByte?]

/-- Settles O11: the identification bytes by evaluation, and the refusal of a body that is not empty. -/
theorem helloAnswersTheIdentification : Obligations.HelloAnswersTheIdentification := by
  intro s r rest htakes
  refine ⟨fun hkind hbody => ?_, fun hkind hbody => ?_, fun hkind => ?_⟩
  · have hcheck : bodyRefusal? .hello r.body = none := bodyRefusal?_of_no_flags rfl (by simp [hbody, ReqKind.lengthOk])
    show execHello s = _
    unfold execHello
    exact State.serveNow_of_takes (u := s.taken rest) (rep := Reply.okWith (helloBytes s.link.rate)) htakes hkind hcheck rfl rfl
  · exact State.serve_of_refused htakes hkind (bodyRefusal?_length (by simpa [ReqKind.lengthOk] using hbody)) _
  · exact State.serve_of_not_takes (not_takes_of_kind_ne htakes hkind) _

end Sys2Proof
end

section
/-! # LINK_STATUS and PORT_QUERY (O12) -/

namespace Sys2Proof.Machine

variable {s : State} {r : Request} {rest : List Request} {p : PortIx} {i : SlotIx}

/-! ## The byte of CLEAR (R201) -/

/-- The flags byte of a query. -/
def clearByte (clear : Bool) : Byte := if clear then 0x01 else 0x00

theorem getLsbD_clearByte (clear : Bool) : (clearByte clear).getLsbD 0 = clear := by cases clear <;> rfl

theorem clearByte_lt (clear : Bool) : (clearByte clear).toNat < 2 := by cases clear <;> decide

/-! ## LINK_STATUS (R192) -/

theorem exec_linkStatus_of_takes {clear : Bool} (h : Takes s r rest) (hkind : r.kind = .linkStatus) (hbody : r.body = [clearByte clear]) :
    exec .linkStatus s =
      .next { s with link :=
        { replied s.link r rest .ok s.link.counters.bytes with
          counters := if clear then Counters.initial else s.link.counters } } := by
  have hcheck : bodyRefusal? .linkStatus [clearByte clear] = none :=
    bodyRefusal?_eq_none.mpr ⟨rfl, decide_eq_true (clearByte_lt clear)⟩
  show execLinkStatus s = _
  rw [execLinkStatus, State.serveNow, State.serve_of_takes h hkind (hbody ▸ hcheck), hbody,
    show (byteAt [clearByte clear] 0).getLsbD 0 = clear from getLsbD_clearByte clear]
  cases clear <;> rfl

/-! ## PORT_QUERY (R137, R138) -/

/-- The bound slot is the lowest that is bound to the port; at most one is (R25). -/
theorem State.boundSlot_of_lowest (hi : (s.slot i).boundTo p = true) (hlower : ∀ j, j < i → (s.slot j).boundTo p = false) :
    s.boundSlot p = some i := by
  refine List.find?_eq_some_iff_getElem.mpr ⟨hi, i.val, by simp, by simp, fun j hj => ?_⟩
  simpa using hlower ⟨j, by omega⟩ hj

theorem State.boundSlot_eq {bound : Option SlotIx}
    (hbound : ∀ i ∈ bound, (s.slot i).boundTo p = true ∧ ∀ j, j < i → (s.slot j).boundTo p = false)
    (hnone : bound = none → ∀ i, (s.slot i).boundTo p = false) : s.boundSlot p = bound := by
  cases bound with
  | none => exact State.boundSlot_eq_none (hnone rfl)
  | some i => exact State.boundSlot_of_lowest (hbound i rfl).1 (hbound i rfl).2

/-- The reply fields of a port, flag by flag (R201). -/
theorem Port.bytes_eq (x : Port) (bound : Option SlotIx) :
    x.bytes bound =
      ([match x.direction with | .inward => 0x00 | .outward => 0x01] : List Byte) ++ leBytes 1 x.threshold
        ++ [BitVec.ofNat 8 ((if x.enable then 1 else 0) + (if x.condition then 2 else 0) + (if x.overrun then 4 else 0)
          + (if x.underrun then 8 else 0) + (if bound.isSome then 16 else 0))]
        ++ leBytes 1 x.occupancy ++ leBytes 1 x.tentative ++ leBytes 1 x.committed ++ leBytes 1 x.staged
        ++ leBytes 2 x.overrunCount ++ leBytes 2 x.underrunCount
        ++ (match bound with | none => [] | some i => leBytes 1 i.val) := by
  unfold Port.bytes
  cases x.direction <;> cases bound <;> rfl

section Query

variable {n : Nat} {clear : Bool} (h : Takes s r rest) (hkind : r.kind = .portQuery) (hn : n < 256)
  (hbody : r.body = leBytes 1 n ++ [clearByte clear])

include hbody in
theorem portQuery_bodyRefusal? : bodyRefusal? .portQuery r.body = none := by
  rw [hbody]
  exact bodyRefusal?_eq_none.mpr ⟨rfl, decide_eq_true (clearByte_lt clear)⟩

include hn hbody in
theorem portQuery_index : fieldAt r.body 0 1 = n := by
  rw [hbody, fieldAt_leBytes_append]
  exact Nat.mod_eq_of_lt hn

include h hkind hn hbody

/-- A port above 7 is refused (R137). -/
theorem exec_portQuery_range (hrange : 8 ≤ n) : exec .portQuery s = .next { s with link := replied s.link r rest .range [] } := by
  show execPortQuery s = _
  unfold execPortQuery
  exact State.serveNow_of_takes (u := s.taken rest) (rep := Reply.bare .range) h hkind (portQuery_bodyRefusal? hbody)
    (by simp only [portQuery_index hn hbody, index?_of_not_lt (Nat.not_lt.mpr hrange)]) rfl

theorem exec_portQuery_accepted (hp : p.val = n) :
    exec .portQuery s =
      .next { s with
        link := replied s.link r rest .ok ((s.port p).bytes (s.boundSlot p))
        ports := if clear then s.ports.set p (s.port p).alarmsCleared else s.ports } := by
  have hbit : (byteAt r.body 1).getLsbD 0 = clear := by rw [hbody]; exact getLsbD_clearByte clear
  show execPortQuery s = _
  unfold execPortQuery
  rw [State.serveNow_of_takes (u := if clear then (s.taken rest).updPort p Port.alarmsCleared else s.taken rest)
    (rep := Reply.okWith ((s.port p).bytes (s.boundSlot p))) h hkind (portQuery_bodyRefusal? hbody)
    (by simp only [portQuery_index hn hbody, index?_eq_some.mpr hp.symm, hbit]; rfl) (by cases clear <;> rfl)]
  cases clear <;> rfl

end Query

end Sys2Proof.Machine

namespace Sys2Proof

open Machine

/-- Settles O12: both queries answer from the state they meet, and CLEAR acts in the same step. -/
theorem queriesReadThenClear : Obligations.QueriesReadThenClear := by
  refine ⟨fun s r rest clear htakes hkind hbody => exec_linkStatus_of_takes htakes hkind hbody,
    fun s r rest n clear htakes hkind hn hbody => ⟨exec_portQuery_range htakes hkind hn hbody, fun p hp bound hbound hnone => ?_⟩⟩
  rw [exec_portQuery_accepted htakes hkind hn hbody hp, State.boundSlot_eq hbound hnone, Port.bytes_eq]
  rfl

end Sys2Proof
end

section
/-! # ENGINE_RESET at rest and behind an element (O13, O14)

`State.resetView` is what ENGINE-RESET lets through of the state it meets: the link, the tables, and of each port what `Port.engineReset`
keeps. A rollback, a commit and the steps of an element change nothing of it but at most a word of the buffer. -/

namespace Sys2Proof.Machine

variable {s t v : State} {i : SlotIx} {l : LegIx} {rec : LegRecord} {snap : Snapshot} {e : Executing} {w : Word}

/-! ## The ports -/

/-- The ports as ENGINE-RESET leaves them (R140). -/
def State.resetPorts (s : State) : Vector Port 8 := s.ports.map Port.engineReset

theorem State.get_resetPorts (s : State) (p : PortIx) : s.resetPorts.get p = (s.port p).engineReset := by
  simp [State.resetPorts, State.port, Vector.get_eq_getElem]

theorem State.resetPorts_congr (h : t.ports = s.ports) : t.resetPorts = s.resetPorts := congrArg (·.map Port.engineReset) h

/-- A change of a port's words is lost in a reset. -/
theorem State.resetPorts_updPort {p : PortIx} {f : Port → Port} (hf : ∀ x, (f x).engineReset = x.engineReset) :
    (s.updPort p f).resetPorts = s.resetPorts := by
  apply Vector.ext
  intro n hn
  simp only [State.resetPorts, State.updPort_ports, Vector.getElem_map, Vector.getElem_set]
  split
  · next heq =>
    subst heq
    exact hf _
  · rfl

@[simp] theorem State.resetPorts_settleBack (s : State) (l : LegIx) : (s.settleBack l).resetPorts = s.resetPorts := by
  unfold State.settleBack
  split
  · exact State.resetPorts_updPort fun _ => rfl
  · rfl

@[simp] theorem State.resetPorts_settleCommit (s : State) (l : LegIx) : (s.settleCommit l).resetPorts = s.resetPorts := by
  unfold State.settleCommit
  split
  · exact State.resetPorts_updPort fun _ => rfl
  · rfl

@[simp] theorem State.resetPorts_rollback (s : State) (i : SlotIx) (l : LegIx) (snap : Snapshot) :
    (s.rollback i l snap).resetPorts = s.resetPorts := State.resetPorts_settleBack _ l

@[simp] theorem State.resetPorts_rollbackStack (s : State) (stack : List Suspended) :
    (s.rollbackStack stack).resetPorts = s.resetPorts := by
  induction stack generalizing s with
  | nil => rfl
  | cons x stack ih =>
    unfold State.rollbackStack
    split <;> simp [ih]

@[simp] theorem State.resetPorts_rollbackAll (s : State) : s.rollbackAll.resetPorts = s.resetPorts := by
  unfold State.rollbackAll
  split
  · split <;> simp
  · simp

theorem State.resetPorts_commit (s : State) (i : SlotIx) (l : LegIx) (rec : LegRecord) : (s.commit i l rec).resetPorts = s.resetPorts :=
  (State.resetPorts_congr (s := s.settleCommit l) (by simp [State.commit])).trans (s.resetPorts_settleCommit l)

theorem State.resetPorts_elementRead {x : Slot} (h : s.elementRead rec x = .word w t) : t.resetPorts = s.resetPorts := by
  unfold State.elementRead at h
  repeat' split at h
  all_goals cases h
  · rfl
  · exact State.resetPorts_updPort fun _ => rfl
  · rfl

theorem State.resetPorts_elementWrite {x : Slot} (h : s.elementWrite rec x w = .ok t) : t.resetPorts = s.resetPorts := by
  unfold State.elementWrite at h
  repeat' split at h
  all_goals cases h
  · rfl
  · exact State.resetPorts_updPort fun _ => rfl

/-! ## What a reset lets through -/

/-- The part of a state that its ENGINE-RESET shows. -/
structure ResetView where
  link : Link
  tables : Tables
  ports : Vector Port 8

def State.resetView (s : State) : ResetView := { link := s.link, tables := s.tables, ports := s.resetPorts }

theorem State.resetView_eq (hlink : t.link = s.link) (htables : t.tables = s.tables) (hports : t.resetPorts = s.resetPorts) :
    t.resetView = s.resetView := by
  simp only [State.resetView, hlink, htables, hports]

theorem State.resetView_updSlot (s : State) (i : SlotIx) (f : Slot → Slot) : (s.updSlot i f).resetView = s.resetView :=
  State.resetView_eq rfl (s.tables_updSlot i f) (State.resetPorts_congr rfl)

theorem State.resetView_giveBackGrant (s : State) (rec : LegRecord) : (s.giveBackGrant rec).resetView = s.resetView :=
  State.resetView_eq (by simp) (by simp) (State.resetPorts_congr (by rw [State.giveBackGrant_eq]))

theorem State.resetView_commit (s : State) (i : SlotIx) (l : LegIx) (rec : LegRecord) : (s.commit i l rec).resetView = s.resetView :=
  State.resetView_eq (by simp) (by simp) (s.resetPorts_commit i l rec)

theorem State.resetView_faulted (s : State) (i : SlotIx) (l : LegIx) (snap : Snapshot) (cause : FaultCause) (element : Nat) :
    (((s.rollback i l snap).setMover (.releasing 0 0)).enterFaulted i l cause element).resetView = s.resetView :=
  State.resetView_eq (by simp) (by simp)
    ((State.resetPorts_congr (s := s.rollback i l snap) (by simp)).trans (s.resetPorts_rollback i l snap))

/-- The six steps of an element show in a reset by the word of the buffer they write (R54, R55). -/
theorem State.resetView_elementSteps {fences : Vector Fence 8} (h : s.elementSteps fences i rec = .moved t) :
    t.resetView = { s.resetView with tables := { s.tables with mem := t.mem } } := by
  have hlink := State.link_elementSteps h
  have htables := State.tables_elementSteps h
  obtain ⟨w, u, v, hread, hwrite, rfl⟩ := State.elementSteps_moved h
  have hports : (v.updSlot i fun x => x.stepped rec w).resetPorts = s.resetPorts :=
    (State.resetPorts_elementWrite hwrite).trans (State.resetPorts_elementRead hread)
  simp only [State.resetView, hlink, htables, hports]

theorem State.mem_elementSteps {fences : Vector Fence 8} (h : s.elementSteps fences i rec = .moved t) :
    t.mem = s.mem ∨ ∃ (p : Path) (w : Word), rec.dst = .buffer p ∧ t.mem = memWrite s.mem (s.slot i).dst.toNat (.good w) := by
  obtain ⟨w, u, v, hread, hwrite, rfl⟩ := State.elementSteps_moved h
  have hmem : u.mem = s.mem := congrArg Tables.mem (State.tables_elementRead hread)
  unfold State.elementWrite at hwrite
  split at hwrite
  · next p hdst =>
    cases hwrite
    exact .inr ⟨p, w, hdst, hmem ▸ rfl⟩
  · split at hwrite <;> cases hwrite
    exact .inl hmem

/-! ## The reset itself (R193) -/

/-- ENGINE-RESET in full: no rollback shows in it. -/
theorem State.engineReset_eq (s : State) (q : Request) :
    s.engineReset q =
      { s with
        slots := Vector.replicate 16 Slot.initial
        legs := s.legs.map fun x => { x with pins := 0 }
        arb := Arbiter.initial
        ports := s.resetPorts
        bufArb := BufArbiter.initial
        events := []
        reports := ReportQueue.afterReset .request
        link := Link.answered { s.link with cache := [] } q ((Reply.bare .ok).frame q.kind q.tag) } := by
  have hports : s.rollbackAll.ports.map Port.engineReset = s.resetPorts := s.resetPorts_rollbackAll
  simp [State.engineReset, State.resetBlocks, hports, State.answer, State.updLink, State.updReports, Link.answered]

theorem State.leg_engineReset (s : State) (q : Request) (m : LegIx) :
    (s.engineReset q).leg m = { record := (s.leg m).record, pins := 0 } := by
  simp [State.engineReset_eq, State.leg, Vector.get_eq_getElem]

theorem State.port_engineReset (s : State) (q : Request) (p : PortIx) : (s.engineReset q).port p = s.resetPorts.get p := by
  rw [State.engineReset_eq]
  rfl

theorem State.endBurst_of_reset (he : s.link.executing = some e) (hwaits : e.waits = .engineReset) (c n : Nat) :
    s.endBurst c n = s.engineReset e.request := by
  simp only [State.endBurst, he, hwaits]

theorem State.midBurst_of_reset (he : s.link.executing = some e) (hwaits : e.waits = .engineReset) (n : Nat) :
    s.midBurst n i l snap = s.engineReset e.request := by
  simp only [State.midBurst, he, hwaits]

/-- A waiting ENGINE-RESET meets a completion, last of its burst or not, before anything of it shows (R57, R193). -/
theorem State.elementCompletes_of_reset (he : s.link.executing = some e) (hwaits : e.waits = .engineReset) (c n : Nat) (i : SlotIx)
    (l : LegIx) (rec : LegRecord) (snap : Snapshot) :
    ∃ v : State, s.elementCompletes c n i l rec snap = v.engineReset e.request ∧ v.resetView = s.resetView := by
  unfold State.elementCompletes
  split
  · exact ⟨_, State.midBurst_of_reset (by simpa using he) hwaits n, s.resetView_updSlot i _⟩
  · have hlink : (s.commit i l rec).link = s.link := by simp
    exact ⟨s.commit i l rec, State.endBurst_of_reset (hlink ▸ he) hwaits c n, s.resetView_commit i l rec⟩

theorem State.elementFails_of_reset (he : s.link.executing = some e) (hwaits : e.waits = .engineReset) (c n : Nat) (i : SlotIx)
    (l : LegIx) (snap : Snapshot) (cause : FaultCause) :
    ∃ v : State, s.elementFails c n i l snap cause = v.engineReset e.request ∧ v.resetView = s.resetView := by
  have hview := s.resetView_faulted i l snap cause (s.slot i).element
  have hlink := congrArg ResetView.link hview
  exact ⟨_, State.endBurst_of_reset ((congrArg Link.executing hlink).trans he) hwaits c n, hview⟩

/-- However the element in flight ends, a waiting ENGINE-RESET runs in its step, from a state that shows at most one written word of the
buffer. -/
theorem State.runElement_of_reset (he : s.link.executing = some e) (hwaits : e.waits = .engineReset) {order : ElementOrder}
    (h : s.runElement order i l rec snap = .next t) :
    ∃ v : State, t = v.engineReset e.request ∧ v.resetView = { s.resetView with tables := { s.tables with mem := v.mem } } ∧
      (v.mem = s.mem ∨ ∃ (p : Path) (w : Word), rec.dst = .buffer p ∧ v.mem = memWrite s.mem (s.slot i).dst.toNat (.good w)) := by
  unfold State.runElement at h
  split at h <;> cases h
  · next u hsteps =>
    have hlink : (u.giveBackGrant rec).link = s.link := (State.link_giveBackGrant _ _).trans (State.link_elementSteps hsteps)
    obtain ⟨v, hv, hview⟩ := State.elementCompletes_of_reset (hlink ▸ he) hwaits order.cancelAt order.selectAt i l rec snap
    have hview := hview.trans (State.resetView_giveBackGrant u rec)
    have hmem : v.mem = u.mem := congrArg (·.tables.mem) hview
    refine ⟨v, hv, ?_, ?_⟩
    · rw [hview, State.resetView_elementSteps hsteps, hmem]
    · rw [hmem]
      exact State.mem_elementSteps hsteps
  · obtain ⟨v, hv, hview⟩ := State.elementFails_of_reset (s := s.giveBackGrant rec) (by simpa using he) hwaits order.cancelAt
      order.selectAt i l snap _
    have hview := hview.trans (s.resetView_giveBackGrant rec)
    have hmem : v.mem = s.mem := congrArg (·.tables.mem) hview
    exact ⟨v, hv, by rw [hview, hmem]; rfl, .inl hmem⟩

/-! ## The two rows -/

theorem bodyRefusal?_engineReset {b : List Byte} (h : b = []) : bodyRefusal? .engineReset b = none :=
  bodyRefusal?_of_no_flags rfl (by simp [h, ReqKind.lengthOk])

theorem exec_engineReset_at_rest {r : Request} {rest : List Request} (h : Takes s r rest) (hkind : r.kind = .engineReset)
    (hbody : r.body = []) (hmover : ∀ i snap, s.arb.mover ≠ .busy i snap) :
    exec .engineReset s = .next ((s.taken rest).engineReset r) := by
  show execEngineReset s = _
  rw [execEngineReset, State.serve_of_takes h hkind (bodyRefusal?_engineReset hbody)]
  split
  · next i snap hbusy => exact absurd hbusy (hmover i snap)
  · rfl

theorem exec_engineReset_waits {r : Request} {rest : List Request} (h : Takes s r rest) (hkind : r.kind = .engineReset)
    (hbody : r.body = []) (hmover : s.arb.mover = .busy i snap) :
    exec .engineReset s = .next ((s.taken rest).holdEngine r .engineReset) := by
  have hmover : (s.taken rest).arb.mover = .busy i snap := hmover
  show execEngineReset s = _
  rw [execEngineReset, State.serve_of_takes h hkind (bodyRefusal?_engineReset hbody), hmover]

end Sys2Proof.Machine

namespace Sys2Proof

open Machine

/-- Settles O13: with the mover not busy the reset runs at once on the state whose request has been taken. -/
theorem engineResetAtRest : Obligations.EngineResetAtRest := by
  intro s r rest htakes hkind hbody hmover
  rw [exec_engineReset_at_rest htakes hkind hbody hmover, State.engineReset_eq]
  obtain ⟨-, hidle, -, -⟩ := htakes
  -- No request executed before the step, and none does after it, so that field of the link is the same.
  simp only [Link.answered, State.taken, ← hidle]
  rfl

/-- Settles O14: ENGINE_RESET holds the engine while the mover is busy, and the end of the element runs it. -/
theorem engineResetWaitsForTheElement : Obligations.EngineResetWaitsForTheElement := by
  refine ⟨fun s r rest i snap htakes hkind hbody hmover => exec_engineReset_waits htakes hkind hbody hmover,
    fun s t e i l r snap o hflight he hwaits h => ?_⟩
  obtain ⟨v, rfl, hview, hmem⟩ := State.runElement_of_reset he hwaits ((execElement_of_inFlight hflight o).symm.trans h)
  have hlink : v.link = s.link := congrArg ResetView.link hview
  have htables : v.tables = { s.tables with mem := v.mem } := congrArg ResetView.tables hview
  have hports : v.resetPorts = s.resetPorts := congrArg ResetView.ports hview
  have hfences : v.fences = s.fences := congrArg Tables.fences htables
  have htriggers : v.triggers = s.triggers := congrArg Tables.triggers htables
  have hport (p : PortIx) : (v.engineReset e.request).port p = (s.port p).engineReset := by
    rw [State.port_engineReset, hports, State.get_resetPorts]
  have hleg (m : LegIx) : (v.engineReset e.request).leg m = { record := (s.leg m).record, pins := 0 } := by
    rw [State.leg_engineReset, show (v.leg m).record = (s.leg m).record from congrFun (congrArg Tables.record htables) m]
  have hqueues := v.link_engineReset e.request
  rw [hlink] at hqueues
  refine ⟨?_, hleg, ?_, ?_, fun p => ?_, ?_, ?_, ?_, ?_, hqueues, ?_⟩
  · rw [State.engineReset_eq]
  · rw [State.engineReset_eq]; rfl
  · rw [State.engineReset_eq]; rfl
  · rw [hport]; exact ⟨rfl, rfl, rfl, rfl, rfl, rfl, rfl, rfl, rfl, rfl⟩
  · rw [State.engineReset_eq]
  · simpa using hfences
  · simpa using htriggers
  · rw [State.engineReset_eq]; rfl
  · simpa using hmem

end Sys2Proof
end

section
/-! # The transmitter (O41) -/

namespace Sys2Proof.Machine

variable {s : State} {f : Frame} {fs : List Frame} {x : Report}

/-! ## The offered report (R163, R189) -/

/-- GATE is OPEN, the report stands at the send position, and it stood in the queue when the executing request was taken. -/
theorem State.offered?_eq_some :
    s.offered? = some x ↔
      s.reports.gateOpen = true ∧ s.reports.queue[s.reports.sendPos]? = some x ∧
        ∀ e, s.link.executing = some e → s.reports.sendPos < e.reportsAtTake := by
  have htakable (hlt : s.reports.sendPos < s.reports.queue.length) :
      s.reports.sendPos < s.takable ↔ ∀ e, s.link.executing = some e → s.reports.sendPos < e.reportsAtTake := by
    unfold State.takable
    cases s.link.executing with
    | none => simpa using hlt
    | some e => simpa using fun _ => hlt
  unfold State.offered?
  constructor
  · intro h
    split at h
    · next hgate =>
      exact ⟨hgate.1, h, (htakable (List.getElem?_eq_some_iff.mp h).1).mp hgate.2⟩
    · cases h
  · rintro ⟨hgate, hx, htake⟩
    rw [if_pos ⟨hgate, (htakable (List.getElem?_eq_some_iff.mp hx).1).mpr htake⟩, hx]

/-- The report that is sent keeps its place, with SENT set. -/
theorem markSent_of_getElem? {q : List Report} {n : Nat} (h : q[n]? = some x) : markSent q n = q.set n { x with sent := true } := by
  rw [markSent, List.modify_eq_set_getElem?, h]
  rfl

theorem State.sendReport_eq (h : s.reports.queue[s.reports.sendPos]? = some x) :
    s.sendReport x =
      { s with
        reports := { s.reports with
          queue := s.reports.queue.set s.reports.sendPos { x with sent := true }, sendPos := s.reports.sendPos + 1 }
        link := { s.link with transmitter := .sending x.frame.line } } := by
  rw [← markSent_of_getElem? h]
  rfl

/-! ## The three rows (R163, R189) -/

theorem exec_transmitReply_of_free (hrun : s.phase = .running) (hfree : s.link.transmitter = .free) (hreplies : s.link.replies = f :: fs) :
    exec .transmitReply s = .next (s.sendReply f fs) := by
  show execTransmitReply s = _
  rw [execTransmitReply, State.whenRunning_of_running hrun]
  simp only [hfree, hreplies]

theorem exec_transmitReport_of_free (hrun : s.phase = .running) (hfree : s.link.transmitter = .free) (hreplies : s.link.replies = [])
    (hoffered : s.offered? = some x) : exec .transmitReport s = .next (s.sendReport x) := by
  show execTransmitReport s = _
  rw [execTransmitReport, State.whenRunning_of_running hrun]
  simp only [hfree, hreplies, hoffered]

/-- The state at a frame's end, before the transmitter chooses. -/
def State.lineFree (s : State) : State := s.updLink fun k => { k with transmitter := .free }

theorem exec_frameSent_of_sending {line : List Byte} (hrun : s.phase = .running) (hline : s.link.transmitter = .sending line) :
    exec .frameSent s = .next s.lineFree.choose := by
  show execFrameSent s = _
  rw [execFrameSent, State.whenRunning_of_running hrun]
  simp only [hline]
  rfl

theorem State.choose_of_reply (h : s.link.replies = f :: fs) : s.choose = s.sendReply f fs := by
  simp only [State.choose, h]

theorem State.choose_of_report (hreplies : s.link.replies = []) (hoffered : s.offered? = some x) : s.choose = s.sendReport x := by
  simp only [State.choose, hreplies, hoffered]

theorem State.choose_of_none (hreplies : s.link.replies = []) (hoffered : s.offered? = none) : s.choose = s := by
  simp only [State.choose, hreplies, hoffered]

end Sys2Proof.Machine

namespace Sys2Proof

open Machine

/-- Settles O41: a free transmitter takes a reply first, then the offered report, and a frame's end leaves it free to choose so. -/
theorem transmitterTakesRepliesBeforeReports : Obligations.TransmitterTakesRepliesBeforeReports := by
  intro s hrun reply report offered
  have hsend {x : Report} (h : offered x) : s.offered? = some x ∧ s.sendReport x = report x := by
    obtain ⟨-, hgate, hx, htake⟩ := h
    exact ⟨State.offered?_eq_some.mpr ⟨hgate, hx, htake⟩, State.sendReport_eq hx⟩
  refine ⟨fun f rest hfree hreplies => exec_transmitReply_of_free hrun hfree hreplies, fun x hfree hx => ?_, fun line hline => ?_⟩
  · obtain ⟨hoffered, hsent⟩ := hsend hx
    rw [exec_transmitReport_of_free hrun hfree hx.1 hoffered, hsent]
  · rw [exec_frameSent_of_sending hrun hline]
    refine ⟨fun f rest hreplies => ?_, fun x hx => ?_, fun hreplies hnone => ?_⟩
    · rw [State.choose_of_reply (s := s.lineFree) hreplies]
      rfl
    · obtain ⟨hoffered, hsent⟩ := hsend hx
      rw [State.choose_of_report (s := s.lineFree) hx.1 hoffered, ← hsent]
      rfl
    · have hoffered : s.offered? = none := Option.eq_none_iff_forall_ne_some.mpr fun x hx =>
        hnone x ⟨hreplies, State.offered?_eq_some.mp hx⟩
      rw [State.choose_of_none (s := s.lineFree) hreplies hoffered]
      rfl

end Sys2Proof
end

section
/-! # The receiver and the frame check (O6, O9) -/

namespace Sys2Proof.Machine

variable {s : State} {b len : Byte} {kept : List Byte}

/-! ## A delivered byte, by the receiver's state (R176) -/

theorem State.deliver_of_hunt (h : s.link.receiver = .hunt) : s.deliver b = if b = Config.sync then s.keep .length else s := by
  simp only [State.deliver, h]

/-- A LEN byte the receiver refuses (R176). -/
theorem badLen_iff : badLen b = true ↔ b.toNat < 2 ∨ 250 < b.toNat := by
  unfold badLen
  rw [Bool.or_eq_true, decide_eq_true_iff, decide_eq_true_iff]
  exact Iff.rfl

theorem State.deliver_of_goodLen (h : s.link.receiver = .length) (hmin : 2 ≤ b.toNat) (hmax : b.toNat ≤ 250) :
    s.deliver b = s.keep (.body b []) := by
  have hgood : ¬ badLen b = true := fun hbad => by
    have := badLen_iff.mp hbad
    omega
  simp only [State.deliver, h, if_neg hgood]

theorem State.deliver_of_badLen (h : s.link.receiver = .length) (hbad : badLen b = true) :
    s.deliver b = (s.count fun c => { c with lengthErrors := bump c.lengthErrors }).toHunt := by
  simp only [State.deliver, h, hbad, if_true]

theorem State.deliver_of_body (h : s.link.receiver = .body len kept) (hmore : kept.length + 1 < len.toNat) :
    s.deliver b = s.keep (.body len (kept ++ [b])) := by
  simp only [State.deliver, h, if_neg (Nat.not_le.mpr hmore)]

theorem State.deliver_of_body_end (h : s.link.receiver = .body len kept) (hlast : kept.length + 1 = len.toNat) :
    s.deliver b = s.keep (.check len (kept ++ [b]) none) := by
  simp only [State.deliver, h, if_pos hlast.ge]

theorem State.deliver_of_low (h : s.link.receiver = .check len kept none) : s.deliver b = s.keep (.check len kept (some b)) := by
  simp only [State.deliver, h]

/-! ## The other rows of the receiver (R178, R179) -/

theorem exec_lengthError_eq (hrun : s.phase = .running) (h : s.link.receiver = .length) (hbad : badLen b = true) :
    exec (.lengthError b) s = exec (.byteDelivered b) s := by
  show execLengthError b s = execByteDelivered b s
  rw [execLengthError, execByteDelivered, State.whenRunning_of_running hrun, State.whenRunning_of_running hrun, if_pos ⟨h, hbad⟩]

theorem exec_gapTimeout_of_running (hrun : s.phase = .running) (h : s.link.receiver ≠ .hunt) :
    exec .gapTimeout s = .next (s.count fun c => { c with gapTimeouts := bump c.gapTimeouts }).toHunt := by
  show execGapTimeout s = _
  rw [execGapTimeout, State.whenRunning_of_running hrun, if_neg h]

theorem exec_lineBreak_of_running (hrun : s.phase = .running) (h : s.link.breakHeld = false) :
    exec .lineBreak s =
      .next (((s.count fun c => { c with breaks := bump c.breaks }).toHunt).updLink fun k => { k with breakHeld := true }) := by
  show execLineBreak s = _
  rw [execLineBreak, State.whenRunning_of_running hrun, if_neg (by simp [h])]

/-- A held break counts no second time, and keeps the characters out (R179). -/
theorem exec_of_breakHeld (hrun : s.phase = .running) (h : s.link.breakHeld = true) :
    exec .lineBreak s = .next s ∧ ∀ b, exec (.byteDelivered b) s = .next s := by
  constructor
  · show execLineBreak s = _
    rw [execLineBreak, State.whenRunning_of_running hrun, if_pos h]
  · intro b
    show execByteDelivered b s = _
    rw [execByteDelivered, State.whenRunning_of_running hrun, State.deliverUnlessBreak, if_pos h]

theorem exec_lineHighAfterBreak_of_running (hrun : s.phase = .running) :
    exec .lineHighAfterBreak s = .next (s.updLink fun k => { k with breakHeld := false }) := by
  show execLineHighAfterBreak s = _
  rw [execLineHighAfterBreak, State.whenRunning_of_running hrun]

/-- While RESET is low and through start-up the rows of the receiver change nothing (R195). -/
theorem receiver_of_not_running (h : s.phase ≠ .running) :
    (∀ b : Byte, exec (.byteDelivered b) s = .next s ∧ exec (.frameReceived b) s = .next s ∧ exec (.lengthError b) s = .next s) ∧
      exec .gapTimeout s = .next s ∧ exec .lineBreak s = .next s ∧ exec .lineHighAfterBreak s = .next s := by
  have hstays (f : State → State) : s.whenRunning f = .next s := State.whenRunning_of_not_running h f
  refine ⟨fun b => ⟨?_, ?_, ?_⟩, ?_, ?_, ?_⟩
  · show execByteDelivered b s = _
    exact hstays _
  · show execFrameReceived b s = _
    exact hstays _
  · show execLengthError b s = _
    exact hstays _
  · show execGapTimeout s = _
    exact hstays _
  · show execLineBreak s = _
    exact hstays _
  · show execLineHighAfterBreak s = _
    exact hstays _

/-! ## The frame check (R177) -/

theorem frameCrc_append (bs : List Byte) (b : Byte) : frameCrc (bs ++ [b]) = crcByte (frameCrc bs) b := by
  simp [frameCrc, List.foldl_append]

/-- A value of 16 bits is its two bytes, low byte first. -/
theorem leBytes_two (v : Nat) (h : v < 65536) :
    ∃ low high : Byte, leBytes 2 v = [low, high] ∧ low.toNat + 256 * high.toNat = v := by
  refine ⟨BitVec.ofNat 8 v, BitVec.ofNat 8 (v / 256), rfl, ?_⟩
  simp only [BitVec.toNat_ofNat]
  omega

end Sys2Proof.Machine

namespace Sys2Proof

open Machine

/-- Settles O6: the rows of R176's table, the three errors, and a part that does not run. -/
theorem receiverFollowsItsTable : Obligations.ReceiverFollowsItsTable := by
  refine ⟨fun s b hrun hbreak => ?_, fun s => receiver_of_not_running, fun s hrun =>
    ⟨fun b hlength hbreak hlen => ?_, exec_gapTimeout_of_running hrun, exec_lineBreak_of_running hrun, exec_of_breakHeld hrun, ?_,
      fun n => bump_of_lt, bump_top⟩⟩
  · rw [exec_byteDelivered_eq hrun hbreak]
    refine ⟨fun h => ?_, fun h hmin hmax => ?_, fun len kept h hmore => ?_, fun len kept h hlast => ?_, fun len kept h => ?_⟩
    · rw [State.deliver_of_hunt h]
      rfl
    · rw [State.deliver_of_goodLen h hmin hmax]
      rfl
    · rw [State.deliver_of_body h hmore]
      rfl
    · rw [State.deliver_of_body_end h hlast]
      rfl
    · rw [State.deliver_of_low h]
      rfl
  · have hbad := badLen_iff.mpr hlen
    rw [exec_lengthError_eq hrun hlength hbad, exec_byteDelivered_eq hrun hbreak, State.deliver_of_badLen hlength hbad]
    exact ⟨rfl, rfl⟩
  · exact exec_lineHighAfterBreak_of_running hrun

/-- Settles O9: the register's definition, the two values by evaluation, and the check at the end of every frame. -/
theorem frameCheckValues : Obligations.FrameCheckValues := by
  refine ⟨rfl, frameCrc_append, fun r => rfl, by decide +kernel, by decide +kernel, fun f => ?_⟩
  obtain ⟨low, high, hbytes, hvalue⟩ := leBytes_two (frameCrc f.covered).toNat (frameCrc f.covered).isLt
  refine ⟨low, high, ?_, hvalue⟩
  rw [Frame.line, hbytes]
  rfl

end Sys2Proof
end

section
/-! # Power reset, start-up, and the laws of the state after reset (O4, O5, O60) -/

namespace Sys2Proof.Machine

variable {s t : State} {n : Nat}

/-! ## The tables of the state after reset -/

@[simp] theorem State.leg_reset (l : LegIx) : State.reset.leg l = LegEntry.initial := by simp [State.leg, State.reset]

@[simp] theorem State.slot_reset (i : SlotIx) : State.reset.slot i = Slot.initial := by simp [State.slot, State.reset]

@[simp] theorem State.fence_reset (k : FenceIx) : State.reset.fence k = Fence.initial := by simp [State.fence, State.reset]

@[simp] theorem State.port_reset (p : PortIx) : State.reset.port p = Port.initial := by simp [State.port, State.reset]

@[simp] theorem State.trigger_reset (k : TrigIx) : State.reset.trigger k = Trigger.initial := by simp [State.trigger, State.reset]

/-! ## Start-up (R144, R172, R195) -/

theorem exec_resetRelease_of_low (h : s.phase = .resetLow) (straps : BitVec 2) :
    exec (.resetRelease straps) s = .next { s with phase := .startUp 0, link := { s.link with rate := straps } } :=
  congrArg Host.Outcome.next (if_pos h)

theorem exec_resetRelease_of_not_low (h : s.phase ≠ .resetLow) (straps : BitVec 2) : exec (.resetRelease straps) s = .next s :=
  congrArg Host.Outcome.next (if_neg h)

theorem exec_startUpEnd_of_startUp (h : s.phase = .startUp n) :
    exec .startUpEnd s =
      .next { s with
        phase := .running
        mem := memZero s.mem n 65536
        link := { s.link with receiver := .hunt, gapLeft := none }
        reports := s.reports.take (.resetDone .power) } := by
  show execStartUpEnd s = _
  simp only [execStartUpEnd, h]
  rfl

theorem exec_startUpEnd_of_not_startUp (h : ∀ n, s.phase ≠ .startUp n) : exec .startUpEnd s = .next s := by
  show execStartUpEnd s = _
  unfold execStartUpEnd
  split
  · next n hn => exact absurd hn (h n)
  · rfl

/-! ## The laws at reset -/

theorem bindingLaw_reset : BindingLaw State.reset := fun i j p h => by
  simp [Slot.boundTo, Slot.outsideIdle, Slot.initial] at h

theorem arbiterLaw_reset : ArbiterLaw State.reset := State.arbitrated_iff.mpr (State.arbitrated_powerReset (s := State.reset) rfl)

theorem elementLaw_reset : ElementLaw State.reset := fun i _ _ => by rw [State.slot_reset]; rfl

theorem legLaw_reset : LegLaw State.reset := fun l r hr => by simp [LegEntry.initial] at hr

theorem portLaw_reset (p : PortIx) : PortLaw (State.reset.port p) := by
  rw [State.port_reset]
  decide

/-- An IDLE slot stands in no stream, and a port at its reset values holds no word of a burst. -/
theorem streamLaw_reset : StreamLaw State.reset := by
  refine ⟨fun i l hl => ?_, fun p _ => ?_⟩
  · simp [Slot.currentLeg, Slot.initial] at hl
  · rw [State.port_reset]
    exact ⟨rfl, rfl⟩

theorem transferLaw_reset : TransferLaw State.reset :=
  ⟨pinLaw_reset, bindingLaw_reset, arbiterLaw_reset, elementLaw_reset, legLaw_reset, portLaw_reset, streamLaw_reset⟩

theorem creditLaw_reset : CreditLaw State.reset := fun i => by
  rw [State.slot_reset]
  exact Nat.zero_le 15

theorem remainingLaw_reset : RemainingLaw State.reset := fun i l hl => by simp [Slot.currentLeg, Slot.initial] at hl

theorem faultLaw_reset : FaultLaw State.reset := fun i f hf => by simp [Slot.faultRecord, Slot.initial] at hf

end Sys2Proof.Machine

namespace Sys2Proof

open Machine

/-- Settles O4: by the definition of the state after reset, table by table. -/
theorem powerResetRestoresEveryBlock : Obligations.PowerResetRestoresEveryBlock :=
  ⟨fun _ => rfl, State.leg_reset, State.slot_reset, fun v => by simp [State.reset, Arbiter.initial], rfl, rfl, rfl, State.fence_reset,
    State.port_reset, State.trigger_reset, rfl, rfl, rfl, rfl⟩

/-- Settles O5: the release samples the straps, and the end of start-up zeroes what is left and reports. -/
theorem startUpZeroesTheBufferAndReports : Obligations.StartUpZeroesTheBufferAndReports := by
  refine ⟨fun s straps h => exec_resetRelease_of_low h straps,
    fun s n h => ⟨_, exec_startUpEnd_of_startUp h, rfl, word_execStartUpEnd h (exec_startUpEnd_of_startUp h)⟩, rfl, rfl,
    fun s t u straps h ht hu a => ?_, fun s straps h => exec_resetRelease_of_not_low h straps,
    fun s h => exec_startUpEnd_of_not_startUp h⟩
  cases (exec_resetRelease_of_low h straps).symm.trans ht
  have hu : execStartUpEnd { s with phase := .startUp 0, link := { s.link with rate := straps } } = .next u := hu
  exact (word_execStartUpEnd rfl hu a).trans (if_neg (Nat.not_lt_zero _))

/-- Settles O60: the queues are empty, every slot is IDLE, every leg FREE and every port at its reset values. -/
theorem lawsHoldAtReset : Obligations.LawsHoldAtReset :=
  ⟨ReportQueue.reportLaw_initial, Link.linkLaw_initial, reset_memWf, transferLaw_reset, creditLaw_reset, remainingLaw_reset,
    faultLaw_reset⟩

end Sys2Proof
end

section
/-! # A request frame on the line reaches the sorting (O8) -/

namespace Sys2Proof.Machine

variable {s : State} {b len kind tag low high : Byte} {kept body : List Byte} {q : ReqKind}

/-! ## A byte taken in on the line -/

/-- The state after a byte is delivered, where the part goes on. -/
def State.receive? (s : State) (b : Byte) : Option State :=
  match exec (.byteDelivered b) s with
  | .next t => some t
  | _ => none

theorem State.receive?_eq (hrun : s.phase = .running) (hbreak : s.link.breakHeld = false) : s.receive? b = some (s.deliver b) := by
  rw [State.receive?, exec_byteDelivered_eq hrun hbreak]

/-- Inside a frame the state is the one before it with the receiver and its gap timer changed, so a byte is taken there too. -/
theorem State.receive?_keep (hrun : s.phase = .running) (hbreak : s.link.breakHeld = false) (r : Receiver) :
    (s.keep r).receive? b = some ((s.keep r).deliver b) := State.receive?_eq hrun hbreak

/-! ## The parts of a frame (R176, R197) -/

theorem State.receive?_sync (hrun : s.phase = .running) (hbreak : s.link.breakHeld = false) (h : s.link.receiver = .hunt) :
    s.receive? Config.sync = some (s.keep .length) := by
  rw [State.receive?_eq hrun hbreak, State.deliver_of_hunt h, if_pos rfl]

theorem State.receive?_len (hrun : s.phase = .running) (hbreak : s.link.breakHeld = false) (hmin : 2 ≤ len.toNat)
    (hmax : len.toNat ≤ 250) : (s.keep .length).receive? len = some (s.keep (.body len [])) := by
  rw [State.receive?_keep hrun hbreak, State.deliver_of_goodLen rfl hmin hmax]
  rfl

/-- The receiver keeps every byte that LEN counts, and then waits for the CRC. -/
theorem State.foldlM_receive?_counted (hrun : s.phase = .running) (hbreak : s.link.breakHeld = false) (b : Byte)
    (bs kept : List Byte) (hcount : kept.length + (b :: bs).length = len.toNat) :
    (b :: bs).foldlM State.receive? (s.keep (.body len kept)) = some (s.keep (.check len (kept ++ b :: bs) none)) := by
  induction bs generalizing b kept with
  | nil =>
    rw [List.foldlM_cons, State.receive?_keep hrun hbreak, State.deliver_of_body_end rfl hcount]
    rfl
  | cons c bs ih =>
    simp only [List.length_cons] at hcount
    have hrest := ih c (kept ++ [b]) (by simp; omega)
    rw [List.foldlM_cons, State.receive?_keep hrun hbreak, State.deliver_of_body rfl (by omega)]
    rwa [List.append_assoc] at hrest

/-- The two CRC bytes end the frame: the receiver hunts, and the frame check follows. -/
theorem State.foldlM_receive?_crc (hrun : s.phase = .running) (hbreak : s.link.breakHeld = false) :
    [low, high].foldlM State.receive? (s.keep (.check len kept none)) = some (s.toHunt.checkFrame len kept low high) := by
  have hlow : (s.keep (.check len kept none)).receive? low = some (s.keep (.check len kept (some low))) := by
    rw [State.receive?_keep hrun hbreak, State.deliver_of_low rfl]
    rfl
  have hhigh : (s.keep (.check len kept (some low))).receive? high = some (s.toHunt.checkFrame len kept low high) := by
    rw [State.receive?_keep hrun hbreak, State.deliver_of_last rfl]
    rfl
  simp only [List.foldlM_cons, List.foldlM_nil, hlow, hhigh, Option.bind_eq_bind, Option.bind_some, Option.pure_def]

/-! ## The frame check and the KIND of a request frame (R177, R180) -/

theorem ofNat_leNat_leBytes_two (c : Crc) : BitVec.ofNat 16 (leNat (leBytes 2 c.toNat)) = c := by
  rw [leNat_leBytes, Nat.mod_eq_of_lt (show c.toNat < 256 ^ 2 from c.isLt), BitVec.ofNat_toNat, BitVec.setWidth_eq]

theorem State.checkFrame_of_crc (hcrc : leBytes 2 (frameCrc (len :: kind :: tag :: body)).toNat = [low, high]) :
    s.checkFrame len (kind :: tag :: body) low high = s.sortFrame kind tag body (frameCrc (len :: kind :: tag :: body)) := by
  rw [State.checkFrame, ← hcrc, ofNat_leNat_leBytes_two]
  exact if_pos rfl

/-- Distinct kinds have distinct codes (R197). -/
theorem ReqKind.ofCode?_code (q : ReqKind) : ReqKind.ofCode? q.code = some q := by
  cases q <;> rfl

theorem State.sortFrame_code (crc : Crc) :
    s.sortFrame q.code tag body crc = s.sortCache { kind := q, tag := tag, body := body, crc := crc } := by
  rw [State.sortFrame, ReqKind.ofCode?_code]

/-! ## The whole frame -/

theorem State.toHunt_eq_self (hhunt : s.link.receiver = .hunt) (hgap : s.link.gapLeft = none) : s.toHunt = s := by
  rw [State.toHunt, ← hhunt, ← hgap]
  rfl

theorem toNat_lenByte (hbody : body.length ≤ 248) : (BitVec.ofNat 8 (body.length + 2)).toNat = body.length + 2 := by
  rw [BitVec.toNat_ofNat, Nat.mod_eq_of_lt (by omega)]

/-- The bytes of a frame of at most 248 body bytes bring its KIND, TAG, body and CRC to the sorting. -/
theorem State.foldlM_receive?_line (hbody : body.length ≤ 248) (hrun : s.phase = .running) (hhunt : s.link.receiver = .hunt)
    (hbreak : s.link.breakHeld = false) (hgap : s.link.gapLeft = none) :
    (Frame.line { kind := kind, tag := tag, body := body }).foldlM State.receive? s =
      some (s.sortFrame kind tag body (frameCrc (Frame.covered { kind := kind, tag := tag, body := body }))) := by
  have hlen := toNat_lenByte hbody
  have hopened := State.receive?_len (len := BitVec.ofNat 8 (body.length + 2)) hrun hbreak (by omega) (by omega)
  have hcounted := State.foldlM_receive?_counted (len := BitVec.ofNat 8 (body.length + 2)) hrun hbreak kind (tag :: body) []
    (by simp [hlen])
  obtain ⟨low, high, hbytes, -⟩ := leBytes_two (frameCrc (Frame.covered { kind := kind, tag := tag, body := body })).toNat
    (BitVec.isLt _)
  calc (Frame.line { kind := kind, tag := tag, body := body }).foldlM State.receive? s
    _ = ((kind :: tag :: body) ++ [low, high]).foldlM State.receive? (s.keep (.body (BitVec.ofNat 8 (body.length + 2)) [])) := by
      rw [Frame.line, hbytes]
      simp only [Frame.covered, List.cons_append, List.foldlM_cons, State.receive?_sync hrun hbreak hhunt, hopened,
        Option.bind_eq_bind, Option.bind_some]
    _ = [low, high].foldlM State.receive? (s.keep (.check (BitVec.ofNat 8 (body.length + 2)) (kind :: tag :: body) none)) := by
      rw [List.foldlM_append, hcounted]
      rfl
    _ = some (s.checkFrame (BitVec.ofNat 8 (body.length + 2)) (kind :: tag :: body) low high) := by
      rw [State.foldlM_receive?_crc hrun hbreak, State.toHunt_eq_self hhunt hgap]
    _ = _ := congrArg some (State.checkFrame_of_crc hbytes)

end Sys2Proof.Machine

namespace Sys2Proof

open Machine

/-- Settles O8: the frame's bytes one part after the other, and then its KIND, which is a request code. -/
theorem frameOnTheLineIsReceived : Obligations.FrameOnTheLineIsReceived := by
  intro q tag body s hbody hrun hhunt hbreak hgap
  have hline := State.foldlM_receive?_line (kind := q.code) (tag := tag) hbody hrun hhunt hbreak hgap
  rw [State.sortFrame_code] at hline
  exact hline

end Sys2Proof
end

section
/-! # Every command goes on and leaves the queue of the commands that wait (O2, O3)

Both statements are read off one case split over the commands: a row goes on to a state with the same queue, and ELEMENT and SLOT_RESUME
alone have another way to end, a fault. -/

namespace Sys2Proof.Machine

variable {s t u : State} {i : SlotIx} {k : ReqKind} {C : Host.Outcome State Fault Refusal → Prop}

/-- The outcome goes on, and the commands that wait are those of the state it comes from. -/
def State.GoesOn (s : State) (o : Host.Outcome State Fault Refusal) : Prop := Reaches (fun t => t.pending = s.pending) o

/-- The outcome goes on with the queue kept, or it is a fault. -/
def State.GoesOnOrStops (s : State) (o : Host.Outcome State Fault Refusal) : Prop := s.GoesOn o ∨ ∃ f, o = .fault f

theorem State.goesOn_next (h : t.pending = s.pending) : s.GoesOn (.next t) := reaches_next h

theorem State.goesOnOrStops_next (h : t.pending = s.pending) : s.GoesOnOrStops (.next t) := .inl (State.goesOn_next h)

theorem State.goesOnOrStops_fault (s : State) (f : Fault) : s.GoesOnOrStops (.fault f) := .inr ⟨f, rfl⟩

/-! ## The kinds of row -/

theorem State.OnlyLink.pending_eq (h : s.OnlyLink t) : t.pending = s.pending := by
  obtain ⟨j, rfl⟩ := h
  rfl

/-- What holds of every next state with the same queue, and of what the owner does with such a state, holds of a request row
(R185–R187). -/
theorem State.serve_of_owner (hnext : ∀ {t : State}, t.pending = s.pending → C (.next t))
    {owner : Request → State → Host.Outcome State Fault Refusal} (howner : ∀ r {t : State}, t.pending = s.pending → C (owner r t)) :
    C (s.serve k owner) := by
  rcases s.serve_cases k owner with ⟨-, h⟩ | ⟨r, t, st, htake, -, h⟩ | ⟨r, t, htake, -, h⟩
  · exact h ▸ hnext rfl
  · exact h ▸ hnext (State.onlyLink_takeRequest? htake).pending_eq
  · exact h ▸ howner r (State.onlyLink_takeRequest? htake).pending_eq

theorem State.goesOn_serve {owner : Request → State → Host.Outcome State Fault Refusal}
    (howner : ∀ r {t : State}, t.pending = s.pending → s.GoesOn (owner r t)) : s.GoesOn (s.serve k owner) :=
  State.serve_of_owner State.goesOn_next howner

theorem State.goesOn_serveNow {owner : List Byte → State → State × Reply}
    (howner : ∀ b (t : State), (owner b t).1.pending = t.pending) : s.GoesOn (s.serveNow k owner) :=
  State.goesOn_serve fun r t ht => State.goesOn_next ((howner r.body t).trans ht)

/-- A slot request answers RANGE and changes nothing, or acts on its slot (R22). -/
theorem State.goesOn_slotRow {f : List Byte → State → SlotIx → State × Reply}
    (hf : ∀ b (t : State) i, (f b t i).1.pending = t.pending) : s.GoesOn (s.serveNow k fun b t => withSlot b t (f b t)) := by
  refine State.goesOn_serveNow fun b t => ?_
  unfold withSlot
  split
  · rfl
  · exact hf b t _

theorem State.goesOn_whenRunning {f : State → State} (hf : ∀ t : State, (f t).pending = t.pending) : s.GoesOn (s.whenRunning f) :=
  reaches_whenRunning (fun t ht => (hf t).trans ht) rfl

/-! ## The line, the resets and start-up -/

theorem goesOn_execResetRelease (s : State) (straps : BitVec 2) : s.GoesOn (execResetRelease straps s) :=
  State.goesOn_next (by split <;> rfl)

theorem goesOn_execStartUpEnd (s : State) : s.GoesOn (execStartUpEnd s) := State.goesOn_next (by split <;> rfl)

theorem goesOn_execUpset (s : State) (x : Upset) : s.GoesOn (execUpset x s) := by
  unfold execUpset
  split <;> exact State.goesOn_next rfl

theorem goesOn_execByteDelivered (s : State) (b : Byte) : s.GoesOn (execByteDelivered b s) :=
  State.goesOn_whenRunning fun t => (t.onlyLink_deliverUnlessBreak b).pending_eq

theorem goesOn_execFrameReceived (s : State) (b : Byte) : s.GoesOn (execFrameReceived b s) := by
  refine State.goesOn_whenRunning fun t => ?_
  split
  · exact (t.onlyLink_deliverUnlessBreak b).pending_eq
  · rfl

theorem goesOn_execLengthError (s : State) (b : Byte) : s.GoesOn (execLengthError b s) := by
  refine State.goesOn_whenRunning fun t => ?_
  split
  · exact (t.onlyLink_deliverUnlessBreak b).pending_eq
  · rfl

theorem goesOn_execGapTimeout (s : State) : s.GoesOn (execGapTimeout s) :=
  State.goesOn_whenRunning fun t => by split <;> rfl

theorem goesOn_execLineBreak (s : State) : s.GoesOn (execLineBreak s) :=
  State.goesOn_whenRunning fun t => by split <;> rfl

theorem goesOn_execLineHighAfterBreak (s : State) : s.GoesOn (execLineHighAfterBreak s) :=
  State.goesOn_whenRunning fun _ => rfl

/-! ## The transmitter and the reports -/

@[simp] theorem State.pending_choose (s : State) : s.choose.pending = s.pending := by
  unfold State.choose
  split
  · rfl
  · split <;> rfl

theorem goesOn_execTransmitReply (s : State) : s.GoesOn (execTransmitReply s) :=
  State.goesOn_whenRunning fun t => by split <;> rfl

theorem goesOn_execTransmitReport (s : State) : s.GoesOn (execTransmitReport s) :=
  State.goesOn_whenRunning fun t => by split <;> rfl

theorem goesOn_execFrameSent (s : State) : s.GoesOn (execFrameSent s) := by
  refine State.goesOn_whenRunning fun t => ?_
  split
  · exact State.pending_choose _
  · rfl

theorem goesOn_execReportAck (s : State) : s.GoesOn (execReportAck s) :=
  State.goesOn_serveNow fun b t => by split <;> rfl

theorem goesOn_execReportReplay (s : State) : s.GoesOn (execReportReplay s) :=
  State.goesOn_serveNow fun b t => by split <;> rfl

theorem goesOn_execReportGate (s : State) : s.GoesOn (execReportGate s) := State.goesOn_serveNow fun _ _ => rfl

/-! ## The link's own requests -/

theorem goesOn_execHello (s : State) : s.GoesOn (execHello s) := State.goesOn_serveNow fun _ _ => rfl

theorem goesOn_execLinkStatus (s : State) : s.GoesOn (execLinkStatus s) :=
  State.goesOn_serveNow fun b t => by dsimp only; split <;> rfl

/-- An ENGINE-RESET waits for the element in flight or runs at once (R193). -/
theorem goesOn_execEngineReset (s : State) : s.GoesOn (execEngineReset s) := by
  refine State.goesOn_serve fun r t ht => ?_
  split
  · exact State.goesOn_next ht
  · exact State.goesOn_next (by simp [ht])

/-! ## The buffer and the leg store -/

@[simp] theorem State.pending_startBlock (s : State) (r : Request) (o : AskOrder) : (s.startBlock r o).pending = s.pending := by
  simp [State.startBlock]

theorem goesOn_execBufWrite (s : State) (o : AskOrder) : s.GoesOn (execBufWrite o s) := by
  refine State.goesOn_serve fun r t ht => ?_
  split
  · exact State.goesOn_next (by simp [ht])
  · exact State.goesOn_next ht

theorem goesOn_execBufRead (s : State) (o : AskOrder) : s.GoesOn (execBufRead o s) := by
  refine State.goesOn_serve fun r t ht => ?_
  split
  · split
    · exact State.goesOn_next (by simp [ht])
    · exact State.goesOn_next ht
  · exact State.goesOn_next ht

@[simp] theorem State.pending_runBlock (s : State) (r : Request) : (s.runBlock r).pending = s.pending := by
  have hwrite : (s.runWriteBlock r).pending = s.pending := by
    unfold State.runWriteBlock
    split
    · rfl
    · rw [State.writeWords_frame]
      rfl
  have hread : (s.runReadBlock r).pending = s.pending := by
    unfold State.runReadBlock
    dsimp only
    split
    · rfl
    · split <;> rfl
  unfold State.runBlock
  split
  · exact hwrite
  · exact hread

theorem goesOn_execHostBlockGrant (s : State) : s.GoesOn (execHostBlockGrant s) := by
  refine State.goesOn_whenRunning fun t => ?_
  split
  · split
    · exact State.pending_runBlock _ _
    · rfl
  · rfl

theorem goesOn_execFenceSet (s : State) : s.GoesOn (execFenceSet s) := by
  refine State.goesOn_serveNow fun b t => ?_
  split
  · rfl
  · split
    · rfl
    · simp

theorem goesOn_execFenceRead (s : State) : s.GoesOn (execFenceRead s) :=
  State.goesOn_serveNow fun b t => by split <;> rfl

theorem goesOn_execLegLoad (s : State) : s.GoesOn (execLegLoad s) := by
  refine State.goesOn_serveNow fun b t => ?_
  split
  · rfl
  · split
    · rfl
    · split <;> rfl

theorem goesOn_execLegRead (s : State) : s.GoesOn (execLegRead s) :=
  State.goesOn_serveNow fun b t => by split <;> rfl

theorem goesOn_execLegLink (s : State) : s.GoesOn (execLegLink s) := by
  refine State.goesOn_serveNow fun b t => ?_
  split
  · rfl
  · split
    · rfl
    · split <;> rfl

/-! ## The slot table -/

theorem goesOn_execSlotSetup (s : State) : s.GoesOn (execSlotSetup s) := by
  refine State.goesOn_slotRow fun b t i => ?_
  split
  · rfl
  · split
    · split <;> rfl
    · rfl

theorem goesOn_execSlotArm (s : State) : s.GoesOn (execSlotArm s) := by
  refine State.goesOn_slotRow fun b t i => ?_
  split
  · next harm => simp [State.arm_frame harm]
  · rfl

theorem goesOn_execSlotStart (s : State) : s.GoesOn (execSlotStart s) := by
  refine State.goesOn_slotRow fun b t i => ?_
  split
  · split
    · next hadd => simp [State.addCredits_frame hadd]
    · rfl
  · rfl

theorem goesOn_execSlotHold (s : State) : s.GoesOn (execSlotHold s) := by
  refine State.goesOn_slotRow fun b t i => ?_
  split
  · next hhold => simp [State.hold?_frame hhold]
  · rfl

theorem goesOn_execSlotQuery (s : State) : s.GoesOn (execSlotQuery s) := State.goesOn_slotRow fun _ _ _ => rfl

theorem goesOn_execSlotCancel (s : State) : s.GoesOn (execSlotCancel s) := by
  refine State.goesOn_serve fun r t ht => ?_
  split
  · exact State.goesOn_next ht
  · split
    · exact State.goesOn_next ht
    · exact State.goesOn_next ht
    · exact State.goesOn_next (by simp [ht])

theorem State.pending_resumeFaulted {l : LegIx} {cause : FaultCause} (h : s.resumeFaulted i l cause = .done t) :
    t.pending = s.pending := by
  unfold State.resumeFaulted at h
  repeat' split at h
  all_goals cases h
  all_goals simp

/-- A resume stops where it has to go on with a leg end in a leg that holds no record (notes/assumptions/16.md). -/
theorem goesOnOrStops_execSlotResume (s : State) : s.GoesOnOrStops (execSlotResume s) := by
  refine State.serve_of_owner State.goesOnOrStops_next fun r t ht => ?_
  split
  · exact State.goesOnOrStops_next ht
  · split
    · exact State.goesOnOrStops_next (by simp [ht])
    · split <;> exact State.goesOnOrStops_next ht
    · split <;> exact State.goesOnOrStops_next ht
    · split
      · next hresumed => exact State.goesOnOrStops_next ((State.pending_resumeFaulted hresumed).trans ht)
      · exact State.goesOnOrStops_next ht
      · exact s.goesOnOrStops_fault _
    · exact State.goesOnOrStops_next ht

/-! ## The ports, the triggers and the pace timers -/

theorem goesOn_execPortSetup (s : State) : s.GoesOn (execPortSetup s) := by
  refine State.goesOn_serveNow fun b t => ?_
  split
  · rfl
  · split
    · rfl
    · split
      · split
        · rfl
        · simp
      · rfl

theorem goesOn_execPortQuery (s : State) : s.GoesOn (execPortQuery s) := by
  refine State.goesOn_serveNow fun b t => ?_
  split
  · rfl
  · dsimp only
    split <;> rfl

@[simp] theorem State.pending_arrive (s : State) (p : PortIx) (w : Word) : (s.arrive p w).pending = s.pending := by
  unfold State.arrive
  split
  · split
    · simp
    · unfold State.overruns
      dsimp only
      split <;> rfl
  · rfl

@[simp] theorem State.pending_takeWord (s : State) (p : PortIx) : (s.takeWord p).pending = s.pending := by
  unfold State.takeWord
  split
  · split
    · split
      · simp
      · unfold State.underruns
        dsimp only
        split <;> rfl
    · rfl
  · rfl

@[simp] theorem State.pending_paceExpires (s : State) (i : SlotIx) : (s.paceExpires i).pending = s.pending := by
  unfold State.paceExpires
  split
  · simp
  · rfl

theorem goesOn_execWordArrival (s : State) (p : PortIx) (w : Word) : s.GoesOn (execWordArrival p w s) :=
  State.goesOn_whenRunning (f := fun t => t.arrive p w) fun t => t.pending_arrive p w

theorem goesOn_execWordTake (s : State) (p : PortIx) : s.GoesOn (execWordTake p s) :=
  State.goesOn_whenRunning (f := fun t => t.takeWord p) fun t => t.pending_takeWord p

theorem goesOn_execPaceExpiry (s : State) (i : SlotIx) : s.GoesOn (execPaceExpiry i s) :=
  State.goesOn_whenRunning (f := fun t => t.paceExpires i) fun t => t.pending_paceExpires i

theorem goesOn_execTrigSet (s : State) : s.GoesOn (execTrigSet s) := by
  refine State.goesOn_serveNow fun b t => ?_
  split
  · rfl
  · split <;> rfl

theorem goesOn_execTrigRead (s : State) : s.GoesOn (execTrigRead s) :=
  State.goesOn_serveNow fun b t => by split <;> rfl

theorem goesOn_execTriggerEvent (s : State) : s.GoesOn (execTriggerEvent s) := by
  refine State.goesOn_whenRunning fun t => ?_
  split
  · rfl
  · next e rest _ =>
    obtain ⟨-, -, -, -, hpending⟩ := State.scan_frame (s := { t with events := rest }) e
    exact hpending

/-! ## The element -/

@[simp] theorem State.pending_endBurst (s : State) (c n : Nat) : (s.endBurst c n).pending = s.pending := by
  unfold State.endBurst
  split
  · split <;> simp
  · simp

@[simp] theorem State.pending_elementFails (s : State) (c n : Nat) (i : SlotIx) (l : LegIx) (snap : Snapshot) (cause : FaultCause) :
    (s.elementFails c n i l snap cause).pending = s.pending := by
  simp [State.elementFails]

@[simp] theorem State.pending_midBurst (s : State) (n : Nat) (i : SlotIx) (l : LegIx) (snap : Snapshot) :
    (s.midBurst n i l snap).pending = s.pending := by
  unfold State.midBurst
  split
  · split
    · split <;> simp [State.cancelActive]
    · simp
    · simp
  · simp

@[simp] theorem State.pending_elementCompletes (s : State) (c n : Nat) (i : SlotIx) (l : LegIx) (r : LegRecord) (snap : Snapshot) :
    (s.elementCompletes c n i l r snap).pending = s.pending := by
  unfold State.elementCompletes
  split <;> simp

@[simp] theorem State.pending_giveBackGrant (s : State) (r : LegRecord) : (s.giveBackGrant r).pending = s.pending := by
  unfold State.giveBackGrant
  split <;> rfl

theorem State.pending_elementRead {r : LegRecord} {x : Slot} {w : Word} (h : s.elementRead r x = .word w t) :
    t.pending = s.pending := by
  unfold State.elementRead at h
  repeat' split at h
  all_goals cases h
  all_goals rfl

theorem State.pending_elementWrite {r : LegRecord} {x : Slot} {w : Word} (h : s.elementWrite r x w = .ok t) :
    t.pending = s.pending := by
  unfold State.elementWrite at h
  repeat' split at h
  all_goals cases h
  all_goals rfl

/-- The six steps read one word and write one (R52). -/
theorem State.pending_elementSteps {fences : Vector Fence 8} {r : LegRecord} (h : s.elementSteps fences i r = .moved t) :
    t.pending = s.pending := by
  unfold State.elementSteps at h
  split at h
  · cases h
  · split at h
    · cases h
    · split at h
      · cases h
      · cases h
      · next hread =>
        split at h
        · cases h
        · next hwrite =>
          cases h
          exact (State.pending_elementWrite hwrite).trans (State.pending_elementRead hread)

theorem State.goesOnOrStops_runElement (s : State) (o : ElementOrder) (i : SlotIx) (l : LegIx) (r : LegRecord) (snap : Snapshot) :
    s.GoesOnOrStops (s.runElement o i l r snap) := by
  unfold State.runElement
  split
  · next hsteps => exact State.goesOnOrStops_next (by simp [State.pending_elementSteps hsteps])
  · exact State.goesOnOrStops_next (by simp)
  · exact s.goesOnOrStops_fault _

/-- ELEMENT stops in its steps, at a leg without a record, or at a slot that is not ACTIVE (notes/assumptions/16.md). -/
theorem goesOnOrStops_execElement (s : State) (o : ElementOrder) : s.GoesOnOrStops (execElement o s) := by
  unfold execElement
  split
  · split
    · split
      · split
        · split
          · exact State.goesOnOrStops_next rfl
          · exact s.goesOnOrStops_runElement ..
        · exact s.goesOnOrStops_fault _
      · exact s.goesOnOrStops_fault _
    · exact State.goesOnOrStops_next (by simp)
    · exact State.goesOnOrStops_next rfl
  · exact State.goesOnOrStops_next rfl

/-! ## Every command -/

theorem exec_goesOn_or_stops (c : Instr) (s : State) :
    s.GoesOn (exec c s) ∨ ∃ f, exec c s = .fault f ∧ (c = .slotResume ∨ ∃ o, c = .element o) := by
  cases c with
  | element o => exact (goesOnOrStops_execElement s o).imp_right fun ⟨f, hf⟩ => ⟨f, hf, .inr ⟨o, rfl⟩⟩
  | slotResume => exact (goesOnOrStops_execSlotResume s).imp_right fun ⟨f, hf⟩ => ⟨f, hf, .inl rfl⟩
  | powerReset => exact .inl (State.goesOn_next rfl)
  | resetRelease straps => exact .inl (goesOn_execResetRelease s straps)
  | startUpEnd => exact .inl (goesOn_execStartUpEnd s)
  | upset x => exact .inl (goesOn_execUpset s x)
  | frameReceived b => exact .inl (goesOn_execFrameReceived s b)
  | lengthError b => exact .inl (goesOn_execLengthError s b)
  | byteDelivered b => exact .inl (goesOn_execByteDelivered s b)
  | gapTimeout => exact .inl (goesOn_execGapTimeout s)
  | lineBreak => exact .inl (goesOn_execLineBreak s)
  | lineHighAfterBreak => exact .inl (goesOn_execLineHighAfterBreak s)
  | transmitReply => exact .inl (goesOn_execTransmitReply s)
  | transmitReport => exact .inl (goesOn_execTransmitReport s)
  | frameSent => exact .inl (goesOn_execFrameSent s)
  | hello => exact .inl (goesOn_execHello s)
  | linkStatus => exact .inl (goesOn_execLinkStatus s)
  | engineReset => exact .inl (goesOn_execEngineReset s)
  | bufWrite o => exact .inl (goesOn_execBufWrite s o)
  | bufRead o => exact .inl (goesOn_execBufRead s o)
  | hostBlockGrant => exact .inl (goesOn_execHostBlockGrant s)
  | fenceSet => exact .inl (goesOn_execFenceSet s)
  | fenceRead => exact .inl (goesOn_execFenceRead s)
  | legLoad => exact .inl (goesOn_execLegLoad s)
  | legRead => exact .inl (goesOn_execLegRead s)
  | legLink => exact .inl (goesOn_execLegLink s)
  | slotSetup => exact .inl (goesOn_execSlotSetup s)
  | slotArm => exact .inl (goesOn_execSlotArm s)
  | slotStart => exact .inl (goesOn_execSlotStart s)
  | slotHold => exact .inl (goesOn_execSlotHold s)
  | slotCancel => exact .inl (goesOn_execSlotCancel s)
  | slotQuery => exact .inl (goesOn_execSlotQuery s)
  | trigSet => exact .inl (goesOn_execTrigSet s)
  | trigRead => exact .inl (goesOn_execTrigRead s)
  | triggerEvent => exact .inl (goesOn_execTriggerEvent s)
  | portSetup => exact .inl (goesOn_execPortSetup s)
  | portQuery => exact .inl (goesOn_execPortQuery s)
  | reportAck => exact .inl (goesOn_execReportAck s)
  | reportReplay => exact .inl (goesOn_execReportReplay s)
  | reportGate => exact .inl (goesOn_execReportGate s)
  | wordArrival p w => exact .inl (goesOn_execWordArrival s p w)
  | wordTake p => exact .inl (goesOn_execWordTake s p)
  | paceExpiry i => exact .inl (goesOn_execPaceExpiry s i)

end Sys2Proof.Machine

namespace Sys2Proof

open Machine

/-- Settles O2: every row goes on, or it is one of the two that a fault can stop. -/
theorem commandsGoOn : Obligations.CommandsGoOn := by
  intro c s
  exact (exec_goesOn_or_stops c s).imp_left fun ⟨t, ht, _⟩ => ⟨t, ht⟩

/-- Settles O3: where a row goes on it keeps the queue, and a fault has no next state. -/
theorem commandsKeepTheQueue : Obligations.CommandsKeepTheQueue := by
  intro c s t h
  rcases exec_goesOn_or_stops c s with ⟨u, hu, hpending⟩ | ⟨f, hf, -⟩
  · cases hu.symm.trans h
    exact hpending
  · cases hf.symm.trans h

end Sys2Proof
end
